-- ==== Sys2Proof/Word.lean ====
section
/-! DEFINITION. The byte of the serial link and the 24-bit tuning word: the two things the spec of the
Pelgram 620 treats as bits. Every other quantity is a number with the range the spec gives. -/

namespace Sys2Proof

/-- One byte on LRX or LTX (R180), also one converter code (R60). -/
abbrev Byte := BitVec 8

/-- The tuning word (R26). -/
abbrev TuningWord := BitVec 24

end Sys2Proof
end

