-- ==== Sys2Proof/Syntax.lean ====
section
/-! DEFINITION. The commands of the 620: one constructor per row of spec/opcode_table.json. A host command
carries its payload as the link carries it (the tag, then the arguments), so that a record refused for its tag, its
length or an undefined code (R183) is a command too. -/

namespace Sys2Proof

/-- The four inputs the line monitor debounces (R168). -/
inductive Input where
  | ptt | call | emerg | batt
  deriving DecidableEq, Repr

/-- The cause of a framing error (R181). -/
inductive FrameCause where
  | gap | length | check
  deriving DecidableEq, Repr

/-- The 48 steps of the part. -/
inductive Instr where
  -- the 24 host commands, each as the interpretation of its record (R182, R183)
  | info (payload : List Byte)
  | paramSet (payload : List Byte)
  | paramGet (payload : List Byte)
  | identity (payload : List Byte)
  | sitePut (payload : List Byte)
  | siteDrop (payload : List Byte)
  | siteGet (payload : List Byte)
  | siteList (payload : List Byte)
  | run (payload : List Byte)
  | halt (payload : List Byte)
  | step (payload : List Byte)
  | cont (payload : List Byte)
  | watchSet (payload : List Byte)
  | watchClear (payload : List Byte)
  | move (payload : List Byte)
  | airIn (payload : List Byte)
  | airSent (payload : List Byte)
  | linesSet (payload : List Byte)
  | linesRead (payload : List Byte)
  | request (payload : List Byte)
  | signOff (payload : List Byte)
  | status (payload : List Byte)
  | notices (payload : List Byte)
  | reset (payload : List Byte)
  -- the other two interpretations of the receive buffer (R183, steps 1 and 2)
  | frameError (cause : FrameCause)
  | unknown (kind : Byte) (payload : List Byte)
  -- the serial link
  | lrxByte (byte : Byte)
  | linkGapExpiry
  | recordSent
  -- resets from outside
  | powerOn
  | resetLine
  -- the tuning unit
  | shiftLatchDone
  | lockBlankEnd (lockActive : Bool)
  | lock
  | lockWaitExpiry
  | settleExpiry
  -- rounds and measurement
  | roundExpiry
  | sampleTimerExpiry
  | rssiConversionDone (code : Byte)
  | listenExpiry
  | batteryTimerExpiry
  | batteryConversionDone (code : Byte)
  -- the input lines; level true is high
  | inputEdge (input : Input) (level : Bool)
  | debounceExpiry (input : Input)
  -- supervision and handover
  | intervalExpiry
  | beaconWaitExpiry
  | grantWaitExpiry
  | txWaitExpiry
  deriving DecidableEq, Repr

end Sys2Proof
end

