-- ==== Sys2Proof/WellFormed.lean ====
section
/-! DEFINITION. Which commands can be sent at all: a record's length byte is 1..64 and counts the kind (R180), so
a payload has at most 63 bytes, and a record of an UNKNOWN interpretation carries no command kind (R183). -/

namespace Sys2Proof

/-- A command kind is 0x01..0x18 (R196). -/
def isCommandKind (kind : Byte) : Bool := decide (1 ≤ kind.toNat) && decide (kind.toNat ≤ 24)

/-- The payload of a record has at most 63 bytes (R180: L is at most 64 and counts the kind). -/
def payloadFits (payload : List Byte) : Bool := decide (payload.length ≤ 63)

/-- A command of the model that the outside can really send. -/
def Instr.wellFormed : Instr → Bool
  | .info p => payloadFits p
  | .paramSet p => payloadFits p
  | .paramGet p => payloadFits p
  | .identity p => payloadFits p
  | .sitePut p => payloadFits p
  | .siteDrop p => payloadFits p
  | .siteGet p => payloadFits p
  | .siteList p => payloadFits p
  | .run p => payloadFits p
  | .halt p => payloadFits p
  | .step p => payloadFits p
  | .cont p => payloadFits p
  | .watchSet p => payloadFits p
  | .watchClear p => payloadFits p
  | .move p => payloadFits p
  | .airIn p => payloadFits p
  | .airSent p => payloadFits p
  | .linesSet p => payloadFits p
  | .linesRead p => payloadFits p
  | .request p => payloadFits p
  | .signOff p => payloadFits p
  | .status p => payloadFits p
  | .notices p => payloadFits p
  | .reset p => payloadFits p
  | .frameError _ => true
  | .unknown k p => !isCommandKind k && payloadFits p
  | .lrxByte _ => true
  | .linkGapExpiry => true
  | .recordSent => true
  | .powerOn => true
  | .resetLine => true
  | .shiftLatchDone => true
  | .lockBlankEnd _ => true
  | .lock => true
  | .lockWaitExpiry => true
  | .settleExpiry => true
  | .roundExpiry => true
  | .sampleTimerExpiry => true
  | .rssiConversionDone _ => true
  | .listenExpiry => true
  | .batteryTimerExpiry => true
  | .batteryConversionDone _ => true
  | .inputEdge _ _ => true
  | .debounceExpiry _ => true
  | .intervalExpiry => true
  | .beaconWaitExpiry => true
  | .grantWaitExpiry => true
  | .txWaitExpiry => true

end Sys2Proof
end

