-- ==== Sys2Proof/Decode.lean ====
section
/-! DEFINITION. The table of this block gives no row any bits, so no word spells a command. What the block does
decode is a record of the serial link: its kind byte names the row that interprets it (R183, R196). -/

namespace Sys2Proof

/-- No row of spec/opcode_table.json has bits (the reader's counts: 0 rows with fixed bits, 0 with fields). -/
def decodeTableWord (_nbits _w : Nat) : Option Instr := none

/-- The row that interprets a received record, by its kind (R183 step 2, R196's command table). -/
def rowOfRecord (kind : Byte) (payload : List Byte) : Instr :=
  match kind.toNat with
  | 0x01 => .info payload
  | 0x02 => .paramSet payload
  | 0x03 => .paramGet payload
  | 0x04 => .identity payload
  | 0x05 => .sitePut payload
  | 0x06 => .siteDrop payload
  | 0x07 => .siteGet payload
  | 0x08 => .siteList payload
  | 0x09 => .run payload
  | 0x0A => .halt payload
  | 0x0B => .step payload
  | 0x0C => .cont payload
  | 0x0D => .watchSet payload
  | 0x0E => .watchClear payload
  | 0x0F => .move payload
  | 0x10 => .airIn payload
  | 0x11 => .airSent payload
  | 0x12 => .linesSet payload
  | 0x13 => .linesRead payload
  | 0x14 => .request payload
  | 0x15 => .signOff payload
  | 0x16 => .status payload
  | 0x17 => .notices payload
  | 0x18 => .reset payload
  | _ => .unknown kind payload

end Sys2Proof
end

