-- ==== Sys2Proof/Config.lean ====
section
/-! DEFINITION. What the spec leaves open as a value, as constants without a body. -/

namespace Sys2Proof

/-- DESIGN CHOICE (log entry 6), safe. Which of 16 queued TRANSMIT notices gives way to a new TRANSMIT.
R193 says that a full queue always contains a notice of another kind; for the queue in which it does not, no rule
chooses. The argument counts the uses. -/
opaque Config.displacedTransmit : Nat → Nat

end Sys2Proof
end

