-- ==== Sys2Proof/Machine/Params.lean ====
section
/-! DEFINITION. The 36 parameters of the table of R188: their IDs, ranges, defaults and stored values. -/

namespace Sys2Proof.Machine

/-- MODE (R90). -/
inductive Mode where
  | auto | fixed
  deriving DecidableEq, Repr

/-- SUPER_MODE (R107). -/
inductive SuperMode where
  | chained | direct
  deriving DecidableEq, Repr

/-- The parameter names of R188. -/
inductive Param where
  | synPrefix | lockWaitMs | settleMs
  | gaps | samples | sampleMs | listenMs | conserveFactor
  | calOffset | calSlope | kUp | kDown | loadStep | hyst | dwell
  | roundMs | floor | acceptMin | staleLimit | confirmLife | holdoff | mode
  | fadeCount | lostCount | superMode
  | beaconWaitMs | grantWaitMs | regTries | txWaitMs | returnBar | directHold | failBar
  | slotMs
  | debounceMs | battLow | battHyst
  deriving DecidableEq, Repr

/-- The stored values of the table of R188. -/
structure Params where
  synPrefix : Nat
  lockWaitMs : Nat
  settleMs : Nat
  gaps : Nat
  samples : Nat
  sampleMs : Nat
  listenMs : Nat
  conserveFactor : Nat
  calOffset : Int
  calSlope : Nat
  kUp : Nat
  kDown : Nat
  loadStep : Nat
  hyst : Nat
  dwell : Nat
  roundMs : Nat
  floor : Nat
  acceptMin : Nat
  staleLimit : Nat
  confirmLife : Nat
  holdoff : Nat
  mode : Mode
  fadeCount : Nat
  lostCount : Nat
  superMode : SuperMode
  beaconWaitMs : Nat
  grantWaitMs : Nat
  regTries : Nat
  txWaitMs : Nat
  returnBar : Nat
  directHold : Nat
  failBar : Nat
  slotMs : Nat
  debounceMs : Nat
  battLow : Nat
  battHyst : Nat
  deriving DecidableEq, Repr

/-- The default column of R188: every parameter after power-on, the RESET line and RESET ALL. -/
def Params.defaults : Params where
  synPrefix := 0
  lockWaitMs := 5
  settleMs := 2
  gaps := 1
  samples := 4
  sampleMs := 1
  listenMs := 600
  conserveFactor := 2
  calOffset := 0
  calSlope := 16
  kUp := 4
  kDown := 8
  loadStep := 4
  hyst := 8
  dwell := 3
  roundMs := 400
  floor := 60
  acceptMin := 50
  staleLimit := 20
  confirmLife := 150
  holdoff := 5
  mode := .auto
  fadeCount := 3
  lostCount := 8
  superMode := .direct
  beaconWaitMs := 1500
  grantWaitMs := 500
  regTries := 2
  txWaitMs := 1000
  returnBar := 10
  directHold := 50
  failBar := 30
  slotMs := 20
  debounceMs := 5
  battLow := 120
  battHyst := 6

/-- The ID column of R188. -/
def Param.code : Param → Nat
  | .synPrefix => 0x01 | .lockWaitMs => 0x02 | .settleMs => 0x03
  | .gaps => 0x10 | .samples => 0x11 | .sampleMs => 0x12 | .listenMs => 0x13 | .conserveFactor => 0x14
  | .calOffset => 0x20 | .calSlope => 0x21 | .kUp => 0x22 | .kDown => 0x23 | .loadStep => 0x24
  | .hyst => 0x25 | .dwell => 0x26
  | .roundMs => 0x30 | .floor => 0x31 | .acceptMin => 0x32 | .staleLimit => 0x33
  | .confirmLife => 0x34 | .holdoff => 0x35 | .mode => 0x36
  | .fadeCount => 0x40 | .lostCount => 0x41 | .superMode => 0x42
  | .beaconWaitMs => 0x50 | .grantWaitMs => 0x51 | .regTries => 0x52 | .txWaitMs => 0x53
  | .returnBar => 0x54 | .directHold => 0x55 | .failBar => 0x56
  | .slotMs => 0x57
  | .debounceMs => 0x60 | .battLow => 0x61 | .battHyst => 0x62

/-- All parameters, in the order of R188. -/
def allParams : List Param :=
  [.synPrefix, .lockWaitMs, .settleMs, .gaps, .samples, .sampleMs, .listenMs, .conserveFactor,
   .calOffset, .calSlope, .kUp, .kDown, .loadStep, .hyst, .dwell, .roundMs, .floor, .acceptMin] ++
  [.staleLimit, .confirmLife, .holdoff, .mode, .fadeCount, .lostCount, .superMode, .beaconWaitMs,
   .grantWaitMs, .regTries, .txWaitMs, .returnBar, .directHold, .failBar, .slotMs, .debounceMs,
   .battLow, .battHyst]

/-- The parameter an ID names, if it is in the table of R188. -/
def paramOfCode (code : Nat) : Option Param := allParams.find? (fun q => q.code == code)

/-- The lower end of the range column of R188. -/
def Param.lo : Param → Int
  | .synPrefix => 0 | .lockWaitMs => 1 | .settleMs => 0
  | .gaps => 1 | .samples => 1 | .sampleMs => 1 | .listenMs => 50 | .conserveFactor => 1
  | .calOffset => -128 | .calSlope => 1 | .kUp => 1 | .kDown => 1 | .loadStep => 0
  | .hyst => 0 | .dwell => 1
  | .roundMs => 100 | .floor => 0 | .acceptMin => 0 | .staleLimit => 1
  | .confirmLife => 1 | .holdoff => 0 | .mode => 0
  | .fadeCount => 1 | .lostCount => 1 | .superMode => 0
  | .beaconWaitMs => 100 | .grantWaitMs => 100 | .regTries => 1 | .txWaitMs => 100
  | .returnBar => 0 | .directHold => 0 | .failBar => 1
  | .slotMs => 5
  | .debounceMs => 0 | .battLow => 0 | .battHyst => 0

/-- The upper end of the range column of R188. -/
def Param.hi : Param → Int
  | .synPrefix => 16383 | .lockWaitMs => 20 | .settleMs => 10
  | .gaps => 4 | .samples => 8 | .sampleMs => 5 | .listenMs => 2500 | .conserveFactor => 8
  | .calOffset => 127 | .calSlope => 64 | .kUp => 16 | .kDown => 16 | .loadStep => 20
  | .hyst => 40 | .dwell => 15
  | .roundMs => 2000 | .floor => 240 | .acceptMin => 240 | .staleLimit => 255
  | .confirmLife => 255 | .holdoff => 255 | .mode => 1
  | .fadeCount => 15 | .lostCount => 63 | .superMode => 1
  | .beaconWaitMs => 5000 | .grantWaitMs => 2000 | .regTries => 4 | .txWaitMs => 5000
  | .returnBar => 255 | .directHold => 255 | .failBar => 255
  | .slotMs => 100
  | .debounceMs => 20 | .battLow => 255 | .battHyst => 32

/-- A value held to a range: the nearer end for a value outside it (00_scope.md, Arithmetic). -/
def clampInt (x lo hi : Int) : Int := if x < lo then lo else if hi < x then hi else x

/-- The value held to the range of the parameter (R187). -/
def Param.hold (q : Param) (v : Int) : Int := clampInt v q.lo q.hi

/-- The code of MODE (R188: 0 AUTO, 1 FIXED). -/
def Mode.code : Mode → Int
  | .auto => 0
  | .fixed => 1

/-- The code of SUPER_MODE (R188: 0 CHAINED, 1 DIRECT). -/
def SuperMode.code : SuperMode → Int
  | .chained => 0
  | .direct => 1

/-- The stored value of a parameter, as PARAM GET reports it (R188). -/
def Params.get (ps : Params) : Param → Int
  | .synPrefix => ps.synPrefix | .lockWaitMs => ps.lockWaitMs | .settleMs => ps.settleMs
  | .gaps => ps.gaps | .samples => ps.samples | .sampleMs => ps.sampleMs
  | .listenMs => ps.listenMs | .conserveFactor => ps.conserveFactor
  | .calOffset => ps.calOffset | .calSlope => ps.calSlope | .kUp => ps.kUp | .kDown => ps.kDown
  | .loadStep => ps.loadStep | .hyst => ps.hyst | .dwell => ps.dwell
  | .roundMs => ps.roundMs | .floor => ps.floor | .acceptMin => ps.acceptMin
  | .staleLimit => ps.staleLimit | .confirmLife => ps.confirmLife | .holdoff => ps.holdoff
  | .mode => ps.mode.code
  | .fadeCount => ps.fadeCount | .lostCount => ps.lostCount | .superMode => ps.superMode.code
  | .beaconWaitMs => ps.beaconWaitMs | .grantWaitMs => ps.grantWaitMs | .regTries => ps.regTries
  | .txWaitMs => ps.txWaitMs | .returnBar => ps.returnBar | .directHold => ps.directHold
  | .failBar => ps.failBar | .slotMs => ps.slotMs
  | .debounceMs => ps.debounceMs | .battLow => ps.battLow | .battHyst => ps.battHyst

/-- Storing a value already held to the range of the parameter (R187). -/
def Params.set (ps : Params) (q : Param) (v : Int) : Params :=
  match q with
  | .synPrefix => { ps with synPrefix := v.toNat }
  | .lockWaitMs => { ps with lockWaitMs := v.toNat }
  | .settleMs => { ps with settleMs := v.toNat }
  | .gaps => { ps with gaps := v.toNat }
  | .samples => { ps with samples := v.toNat }
  | .sampleMs => { ps with sampleMs := v.toNat }
  | .listenMs => { ps with listenMs := v.toNat }
  | .conserveFactor => { ps with conserveFactor := v.toNat }
  | .calOffset => { ps with calOffset := v }
  | .calSlope => { ps with calSlope := v.toNat }
  | .kUp => { ps with kUp := v.toNat }
  | .kDown => { ps with kDown := v.toNat }
  | .loadStep => { ps with loadStep := v.toNat }
  | .hyst => { ps with hyst := v.toNat }
  | .dwell => { ps with dwell := v.toNat }
  | .roundMs => { ps with roundMs := v.toNat }
  | .floor => { ps with floor := v.toNat }
  | .acceptMin => { ps with acceptMin := v.toNat }
  | .staleLimit => { ps with staleLimit := v.toNat }
  | .confirmLife => { ps with confirmLife := v.toNat }
  | .holdoff => { ps with holdoff := v.toNat }
  | .mode => { ps with mode := if v = 0 then .auto else .fixed }
  | .fadeCount => { ps with fadeCount := v.toNat }
  | .lostCount => { ps with lostCount := v.toNat }
  | .superMode => { ps with superMode := if v = 0 then .chained else .direct }
  | .beaconWaitMs => { ps with beaconWaitMs := v.toNat }
  | .grantWaitMs => { ps with grantWaitMs := v.toNat }
  | .regTries => { ps with regTries := v.toNat }
  | .txWaitMs => { ps with txWaitMs := v.toNat }
  | .returnBar => { ps with returnBar := v.toNat }
  | .directHold => { ps with directHold := v.toNat }
  | .failBar => { ps with failBar := v.toNat }
  | .slotMs => { ps with slotMs := v.toNat }
  | .debounceMs => { ps with debounceMs := v.toNat }
  | .battLow => { ps with battLow := v.toNat }
  | .battHyst => { ps with battHyst := v.toNat }

end Sys2Proof.Machine
end

