-- ==== Sys2Proof/Machine/Types.lean ====
section
/-! DEFINITION. The kinds of state each block of the 620 holds, in the spec's names. A timer is `none` while stopped
and `some period` while it runs with the period it was started with (log entry 1). -/

namespace Sys2Proof.Machine

/-! ### Site table (chapter 1) -/

inductive Origin where
  | pinned | learned
  deriving DecidableEq, Repr

/-- The kinds of a bar (R8). -/
inductive BarKind where
  | refused | failed | ret | hold
  deriving DecidableEq, Repr

structure Bar where
  kind : BarKind
  remaining : Nat
  deriving DecidableEq, Repr

/-- The level field: the last credited mean and the filtered level in sixteenths (R4). -/
structure Level where
  mean : Nat
  f16 : Nat
  deriving DecidableEq, Repr

/-- A site record (section 1.2). -/
structure SiteRecord where
  site : Nat
  channel : Nat
  origin : Origin
  bias : Int
  level : Option Level
  age : Nat
  confirm : Option Nat
  load : Option Nat
  bar : Option Bar
  failures : Nat
  advAge : Nat
  deriving DecidableEq, Repr

/-- The source of a learned addition (R23). -/
inductive LearnSource where
  | neighbour | heard | direct
  deriving DecidableEq, Repr

/-! ### Tuning unit (chapter 2) -/

inductive Position where
  | parked | home | away
  deriving DecidableEq, Repr

inductive TuneKind where
  | away | ret
  deriving DecidableEq, Repr

/-- Who can hold the receiver: the two clients and, for a CONTINUE retry, the engine (R33, R38). -/
inductive Owner where
  | scheduler | affiliation | engine
  deriving DecidableEq, Repr

structure TuneReq where
  channel : Nat
  kind : TuneKind
  deriving DecidableEq, Repr

/-- The course of one attempt: the shift, the 0.5 ms blanking, the lock wait, the settling (R26, R30, R31). The first
three make up TUNING. -/
inductive TunePhase where
  | shifting | blanking | waiting | settling
  deriving DecidableEq, Repr

/-- What is to happen at the latch of a shift under way: the attempt goes on, or a withdrawal taken during the shift
takes effect with the new request or the release that came with it (R35). -/
inductive AtLatch where
  | proceed | restart (req : TuneReq) | release
  deriving DecidableEq, Repr

/-- The record the tuning unit keeps while an operation runs (section 2.3). -/
structure TuneOp where
  channel : Nat
  kind : TuneKind
  attempt : Nat
  owner : Owner
  phase : TunePhase
  word : TuningWord
  lockWait : Option Nat
  settle : Option Nat
  atLatch : AtLatch
  deriving DecidableEq, Repr

/-- The levels of the three output lines of the tuning link; true is high (R26). -/
structure TuningPins where
  tclk : Bool
  tdat : Bool
  tle : Bool
  deriving DecidableEq, Repr

/-- TCLK, TDAT and TLE at rest (R26). -/
def TuningPins.low : TuningPins := ⟨false, false, false⟩

/-- The tuning unit (chapter 2). `latched` is the word in effect in the synthesizer, absent where the 620 does not know it
(R26, R41). `driven` is the model's own (log entry 39): the levels that the last shift and latch put on the lines, oldest
first. -/
structure Tuning where
  op : Option TuneOp
  tuned : Option Nat
  position : Position
  holder : Option Owner
  waitSched : Option TuneReq
  waitAff : Option TuneReq
  retryWaiting : Bool
  fault : Bool
  pins : TuningPins
  latched : Option TuningWord
  driven : List TuningPins
  deriving DecidableEq, Repr

/-! ### Scan scheduler (chapter 3) -/

/-- Where the samples of a burst or gap stand: waiting for the converter, a conversion under way, the SAMPLE_MS
spacing running, or all taken (R43, R176). -/
inductive SamplePhase where
  | waiting | converting | spacing | complete
  deriving DecidableEq, Repr

/-- One run of RSSI samples, with the values of SAMPLES and SAMPLE_MS it began with (R58). -/
structure SampleRun where
  count : Nat
  spacing : Nat
  taken : Nat
  sum : Nat
  phase : SamplePhase
  deriving DecidableEq, Repr

/-- A serving burst in flight; `standing` is R12's condition on its record. -/
structure Burst where
  site : Nat
  run : SampleRun
  standing : Bool
  deriving DecidableEq, Repr

inductive GapKind where
  | short | long | hunt
  deriving DecidableEq, Repr

inductive GapPhase where
  | tuneAway | sample | listen | tuneHome
  deriving DecidableEq, Repr

/-- The last beacon noted in a gap; `standing` is R12's condition on the record of its site. -/
structure Noted where
  site : Nat
  standing : Bool
  deriving DecidableEq, Repr

/-- The gap record (chapter 3's introduction). `inStep` tells whether the STEP round in progress started the gap
(R159). -/
structure Gap where
  position : Nat
  site : Nat
  channel : Nat
  kind : GapKind
  fromPending : Bool
  phase : GapPhase
  run : SampleRun
  noted : Option Noted
  standing : Bool
  listenTimer : Option Nat
  inStep : Bool
  deriving DecidableEq, Repr

inductive WorkKind where
  | home | hunt
  deriving DecidableEq, Repr

/-- The round work not yet done. It is present exactly while the round's request is current and its work has not ended
(R42, R57). No gap of a HOME round has started while `visited` is empty. -/
structure RoundWork where
  kind : WorkKind
  gapsLeft : Nat
  visited : List Nat
  toVisit : Option (List Nat)
  deriving DecidableEq, Repr

structure Sched where
  work : Option RoundWork
  burst : Option Burst
  gap : Option Gap
  visitPtr : Nat
  huntPtr : Nat
  conserve : Nat
  deriving DecidableEq, Repr

/-! ### Decision engine (chapters 5 and 9) -/

/-- Why the engine is FROZEN (R152). -/
inductive FreezeCause where
  | watch (slot : Nat) | tune
  deriving DecidableEq, Repr

/-- The engine state; the freeze cause is present exactly while FROZEN (R152). -/
inductive EngineState where
  | halted | running | frozen (cause : FreezeCause)
  deriving DecidableEq, Repr

/-- The cause an ENGINE_STATE notice carries (R152). -/
inductive EngineCause where
  | run | halt | cont | stepDone | watch | tune | reset
  deriving DecidableEq, Repr

inductive WatchMode where
  | report | holdOnChange | holdOnSelect
  deriving DecidableEq, Repr

/-- The source of a write offered to the watches (R163). -/
inductive WriteSource where
  | scan | beacon | host
  deriving DecidableEq, Repr

/-- The source field of a watch: `none` is ANY (R162). -/
structure Watch where
  site : Nat
  mode : WatchMode
  source : Option WriteSource
  deriving DecidableEq, Repr

/-- The causes of a handover (section 7.4). -/
inductive Cause where
  | better | floor | fading | loss | directed | host | acquire
  deriving DecidableEq, Repr

/-- The pending candidate; its cause is BETTER, FLOOR or FADING (R87). -/
structure Candidate where
  site : Nat
  count : Nat
  cause : Cause
  deriving DecidableEq, Repr

structure Engine where
  state : EngineState
  stepFlag : Bool
  continuePending : Bool
  watch0 : Option Watch
  watch1 : Option Watch
  roundTimer : Option Nat
  cand : Option Candidate
  holdoff : Nat
  releaseOwed : Bool
  deriving DecidableEq, Repr

/-! ### Supervision unit (chapter 6) -/

inductive SupState where
  | healthy | fading | lost
  deriving DecidableEq, Repr

structure Sup where
  active : Bool
  state : SupState
  cls : Option Nat
  timer : Option Nat
  fine : Nat
  coarse : Nat
  excuse : Bool
  pttNoted : Bool
  gapNoted : Bool
  deriving DecidableEq, Repr

/-! ### Affiliation controller (chapters 7 and 8) -/

/-- The handover machine (R116). -/
inductive HoState where
  | none | registered | hoTune | hoListen | hoSend | hoGrant | hoReturn
  deriving DecidableEq, Repr

inductive Sense where
  | present | need
  deriving DecidableEq, Repr

inductive RefuseReason where
  | full | barred | wrongGroup
  deriving DecidableEq, Repr

inductive AddressKind where
  | unit | group
  deriving DecidableEq, Repr

/-- The reasons of a failed handover (R129). -/
inductive FailReason where
  | lock | noBeacon | notAccepting | txNotSent | refused | noGrant | abortedPtt
  deriving DecidableEq, Repr

inductive DirectReason where
  | modeFixed | unknown | unconfirmed | barred | weak | busy
  deriving DecidableEq, Repr

inductive NoServiceCause where
  | noTarget | acquireFailed | signedOff
  deriving DecidableEq, Repr

structure Identity where
  unit : Nat
  group : Nat
  deriving DecidableEq, Repr

/-- The content of a BEACON (section 7.2). -/
structure Beacon where
  site : Nat
  channel : Nat
  load : Nat
  cls : Nat
  accepting : Bool
  neighbours : List (Nat × Nat)
  deriving DecidableEq, Repr

/-- The flags of a STATUS REPORT (R148). -/
structure ReportFlags where
  request : Bool
  emergency : Bool
  batteryLow : Bool
  fading : Bool
  deriving DecidableEq, Repr

/-- The air frames (section 7.2). In the frames a radio sends, `site` is the site addressed. -/
inductive AirFrame where
  | beacon (b : Beacon)
  | grant (site unit : Nat) (slot : Option Nat) (sense : Sense)
  | refuse (site unit : Nat) (reason : RefuseReason) (retry : Nat)
  | release (site unit : Nat) (retry : Nat)
  | rollCall (site : Nat)
  | statusQuery (site unit : Nat)
  | direct (site : Nat) (kind : AddressKind) (address target channel : Nat)
  | register (site unit group previous : Nat) (emergency : Bool)
  | rollAnswer (site unit : Nat) (slot : Option Nat)
  | statusReport (site unit : Nat) (flags : ReportFlags) (level : Option Nat) (count : Nat)
  | deregister (site unit : Nat)
  deriving DecidableEq, Repr

inductive HoTimerKind where
  | beaconWait | grantWait
  deriving DecidableEq, Repr

structure HoTimer where
  kind : HoTimerKind
  period : Nat
  deriving DecidableEq, Repr

/-- The handover context (chapter 7's introduction). `inStep` tells whether the STEP round in progress began the
handover (R159). -/
structure Context where
  target : Nat
  cause : Cause
  oldServing : Option Nat
  canReturn : Bool
  attempts : Nat
  cls : Option Nat
  tried : List Nat
  waiting : Bool
  inStep : Bool
  deriving DecidableEq, Repr

/-- The kinds of frame sent through the transmit request (R123). -/
inductive TxKind where
  | register | deregister | rollAnswer | statusReport
  deriving DecidableEq, Repr

structure TxReq where
  kind : TxKind
  frame : AirFrame
  delay : Nat
  number : Nat
  deriving DecidableEq, Repr

/-- The outcome of a transmit request (R124). -/
inductive TxOutcome where
  | sent | notSent
  deriving DecidableEq, Repr

structure Aff where
  serving : Option Nat
  slot : Option Nat
  sense : Option Sense
  identity : Option Identity
  machine : HoState
  ctx : Option Context
  hoTimer : Option HoTimer
  tx : Option TxReq
  txTimer : Option Nat
  lastNumber : Nat
  registerDue : Bool
  deregisterDue : Bool
  signingOff : Bool
  request : Bool
  deriving DecidableEq, Repr

/-! ### Line monitor and converter (chapter 10) -/

inductive Polarity where
  | activeHigh | activeLow
  deriving DecidableEq, Repr

/-- The state of one input; a level is true when high, and `none` is unknown (chapter 10's introduction). -/
structure InputLine where
  polarity : Polarity
  report : Bool
  raw : Bool
  debounced : Option Bool
  timer : Option Nat
  reference : Option Bool
  mark : Bool
  deriving DecidableEq, Repr

inductive BattMode where
  | digital | analog
  deriving DecidableEq, Repr

inductive BattCondition where
  | normal | low
  deriving DecidableEq, Repr

/-- The line monitor. `muteEdges` is the model's own: how often MUTE has changed, so that a release and an assertion
within one command show (R39, log entry 20). -/
structure Lines where
  ptt : InputLine
  call : InputLine
  emerg : InputLine
  batt : InputLine
  battMode : BattMode
  battery : BattCondition
  battTimer : Option Nat
  mute : Bool
  txinh : Bool
  muteEdges : Nat
  deriving DecidableEq, Repr

/-- The configuration LINES SET carries for one input (R171). -/
structure InputConfig where
  polarity : Polarity
  report : Bool
  deriving DecidableEq, Repr

/-- The holder of the converter; `judged` is false for a battery conversion that ends after the mode left ANALOG
(R175, R176). -/
inductive ConvState where
  | idle | rssi | battery (judged : Bool)
  deriving DecidableEq, Repr

inductive ConvUser where
  | rssi | battery
  deriving DecidableEq, Repr

structure Conv where
  state : ConvState
  waiting : Option ConvUser
  deriving DecidableEq, Repr

/-! ### Link interface (chapter 11) -/

/-- The receiver: HUNT, LENGTH, or BODY with the length L and the bytes kept so far (R181). -/
inductive RxState where
  | hunt | length | body (len : Nat) (bytes : List Byte)
  deriving DecidableEq, Repr

/-- What the receive buffer can hold (R182). -/
inductive RxItem where
  | frame (kind : Byte) (payload : List Byte)
  | error (cause : FrameCause)
  deriving DecidableEq, Repr

inductive ReplyCode where
  | ok | clamped | state | badArg | unknown | tableFull | notFound | busy | notConfirmed | noIdentity | frameError
  deriving DecidableEq, Repr

structure Reply where
  kind : Byte
  tag : Byte
  code : ReplyCode
  data : List Byte
  deriving DecidableEq, Repr

/-- The notices (R196). -/
inductive Notice where
  | roamed (fromSite toSite : Nat) (cause : Cause)
  | handoverFailed (target : Nat) (cause : Cause) (reason : FailReason) (refuse : Option RefuseReason)
  | servingState (site : Nat) (state : SupState)
  | noService (site : Nat) (cause : NoServiceCause)
  | transmit (number delay : Nat) (frame : AirFrame)
  | lineChange (pending levels : List Bool)
  | watchReport (slot site : Nat) (source : WriteSource) (level : Option Level)
  | engineState (state : EngineState) (cause : EngineCause) (slot : Option Nat)
  | siteLearned (site channel position : Nat) (source : LearnSource)
  | siteEvicted (site channel position advAge : Nat)
  | battery (condition : BattCondition) (mode : BattMode) (code : Option Byte)
  | directRefused (target : Nat) (reason : DirectReason)
  | released (site rounds : Nat)
  deriving DecidableEq, Repr

/-- A queued notice with its LOST flag (R191). -/
structure Queued where
  notice : Notice
  lost : Bool
  deriving DecidableEq, Repr

/-- The transmitter: idle, or sending the reply of the reply slot or a notice, with the bytes on LTX (R185). -/
inductive Transmitter where
  | idle
  | reply (bytes : List Byte)
  | notice (bytes : List Byte)
  deriving DecidableEq, Repr

/-- LTX at rest: high (R180). -/
def ltxRest : List Bool := [true]

/-- The scope of RESET (R194). -/
inductive Scope where
  | engine | all
  deriving DecidableEq, Repr

/-- The link interface (chapter 11). `ltx` is the output LTX, true for high: the levels of the record being sent, one for
each bit time, and a single level of rest while nothing is sent (R180). -/
structure Link where
  rx : RxState
  gapTimer : Option Nat
  buffer : Option RxItem
  reply : Option Reply
  notices : List Queued
  enabled : BitVec 16
  lost : Bool
  tx : Transmitter
  ltx : List Bool
  resetDue : Option Scope
  deriving DecidableEq, Repr

/-! ### The whole part -/

/-- Everything the 620 holds, block by block. `freeCount` is the model's own (log entry 6). -/
structure Part where
  params : Params
  table : List (Option SiteRecord)
  tuning : Tuning
  sched : Sched
  engine : Engine
  sup : Sup
  aff : Aff
  lines : Lines
  conv : Conv
  link : Link
  freeCount : Nat
  deriving DecidableEq, Repr

/-- What the interpretation of a command comes to: the part after it, the reply code and the reply data (R182, R184). -/
structure Answer where
  part : Part
  code : ReplyCode
  data : List Byte
  deriving DecidableEq, Repr

end Sys2Proof.Machine
end

