-- ==== Sys2Proof/Machine/Operands.lean ====
section
/-! DEFINITION. Operand forms: how the fields of records and air frames are read from bytes and written to bytes
(R119, R196). -/

namespace Sys2Proof.Machine

/-! ### Numbers (R196: most significant byte first; signed fields in two's complement) -/

def u16 (hi lo : Byte) : Nat := hi.toNat * 256 + lo.toNat

def s16 (hi lo : Byte) : Int := if u16 hi lo < 32768 then (u16 hi lo : Int) else (u16 hi lo : Int) - 65536

def s8 (b : Byte) : Int := if b.toNat < 128 then (b.toNat : Int) else (b.toNat : Int) - 256

def byte (n : Nat) : Byte := BitVec.ofNat 8 n

def bytes16 (n : Nat) : List Byte := [byte (n / 256), byte n]

def signedByte (i : Int) : Byte := BitVec.ofInt 8 i

def signedBytes16 (i : Int) : List Byte := bytes16 (BitVec.ofInt 16 i).toNat

/-! ### Ranges (00_scope.md, Identifiers and ranges) -/

def siteOk (n : Nat) : Bool := decide (1 ≤ n) && decide (n ≤ 4095)

def channelOk (n : Nat) : Bool := decide (n ≤ 1023)

def unitOk (n : Nat) : Bool := decide (1 ≤ n) && decide (n ≤ 65534)

def groupOk (n : Nat) : Bool := decide (1 ≤ n) && decide (n ≤ 4095)

/-! ### Enumerations (R196): code out, code in (`none` where no value has the code) -/

def boolOfCode : Nat → Option Bool
  | 0 => some false
  | 1 => some true
  | _ => none

def senseOfCode : Nat → Option Sense
  | 0 => some .present
  | 1 => some .need
  | _ => none

def refuseOfCode : Nat → Option RefuseReason
  | 0 => some .full
  | 1 => some .barred
  | 2 => some .wrongGroup
  | _ => none

def addressOfCode : Nat → Option AddressKind
  | 0 => some .unit
  | 1 => some .group
  | _ => none

def watchModeOfCode : Nat → Option WatchMode
  | 0 => some .report
  | 1 => some .holdOnChange
  | 2 => some .holdOnSelect
  | _ => none

/-- The outer `none` is an undefined code, the inner one is ANY. -/
def watchSourceOfCode : Nat → Option (Option WriteSource)
  | 0 => some (some .scan)
  | 1 => some (some .beacon)
  | 2 => some (some .host)
  | 3 => some none
  | _ => none

def scopeOfCode : Nat → Option Scope
  | 0 => some .engine
  | 1 => some .all
  | _ => none

def outcomeOfCode : Nat → Option TxOutcome
  | 0 => some .sent
  | 1 => some .notSent
  | _ => none

def battModeOfCode : Nat → Option BattMode
  | 0 => some .digital
  | 1 => some .analog
  | _ => none

def Sense.code : Sense → Nat
  | .present => 0
  | .need => 1

def RefuseReason.code : RefuseReason → Nat
  | .full => 0
  | .barred => 1
  | .wrongGroup => 2

def AddressKind.code : AddressKind → Nat
  | .unit => 0
  | .group => 1

def EngineState.code : EngineState → Nat
  | .halted => 0
  | .running => 1
  | .frozen _ => 2

def EngineCause.code : EngineCause → Nat
  | .run => 0
  | .halt => 1
  | .cont => 2
  | .stepDone => 3
  | .watch => 4
  | .tune => 5
  | .reset => 6

def HoState.code : HoState → Nat
  | .none => 0
  | .registered => 1
  | .hoTune => 2
  | .hoListen => 3
  | .hoSend => 4
  | .hoGrant => 5
  | .hoReturn => 6

def Cause.code : Cause → Nat
  | .better => 0
  | .floor => 1
  | .fading => 2
  | .loss => 3
  | .directed => 4
  | .host => 5
  | .acquire => 6

def FailReason.code : FailReason → Nat
  | .lock => 0
  | .noBeacon => 1
  | .notAccepting => 2
  | .txNotSent => 3
  | .refused => 4
  | .noGrant => 5
  | .abortedPtt => 6

def DirectReason.code : DirectReason → Nat
  | .modeFixed => 0
  | .unknown => 1
  | .unconfirmed => 2
  | .barred => 3
  | .weak => 4
  | .busy => 5

def NoServiceCause.code : NoServiceCause → Nat
  | .noTarget => 0
  | .acquireFailed => 1
  | .signedOff => 2

def BarKind.code : BarKind → Nat
  | .refused => 0
  | .failed => 1
  | .ret => 2
  | .hold => 3

def WriteSource.code : WriteSource → Nat
  | .scan => 0
  | .beacon => 1
  | .host => 2

def LearnSource.code : LearnSource → Nat
  | .neighbour => 0
  | .heard => 1
  | .direct => 2

def SupState.code : SupState → Nat
  | .healthy => 0
  | .fading => 1
  | .lost => 2

def Position.code : Position → Nat
  | .parked => 0
  | .home => 1
  | .away => 2

def BattCondition.code : BattCondition → Nat
  | .normal => 0
  | .low => 1

def BattMode.code : BattMode → Nat
  | .digital => 0
  | .analog => 1

def Origin.code : Origin → Nat
  | .pinned => 0
  | .learned => 1

def FrameCause.code : FrameCause → Nat
  | .gap => 0
  | .length => 1
  | .check => 2

def ReplyCode.code : ReplyCode → Nat
  | .ok => 0
  | .clamped => 1
  | .state => 2
  | .badArg => 3
  | .unknown => 4
  | .tableFull => 5
  | .notFound => 6
  | .busy => 7
  | .notConfirmed => 8
  | .noIdentity => 9
  | .frameError => 10

/-- The air frame kind of a transmit request, as STATUS reports it (R196). -/
def TxKind.code : TxKind → Nat
  | .register => 0x21
  | .rollAnswer => 0x22
  | .statusReport => 0x23
  | .deregister => 0x24

/-! ### Air frames in (R119) -/

/-- A slot byte: 0..31, or 0xFF for NONE; any other value is out of range (R119, R196). -/
def slotOfByte (b : Byte) : Option (Option Nat) :=
  if b.toNat ≤ 31 then some (some b.toNat) else if b.toNat = 255 then some none else none

/-- The neighbour entries of a BEACON: four bytes each, each in range (R119). -/
def parseNeighbours : List Byte → Option (List (Nat × Nat))
  | [] => some []
  | a :: b :: c :: d :: rest =>
    if siteOk (u16 a b) && channelOk (u16 c d) then
      (parseNeighbours rest).map (fun ns => (u16 a b, u16 c d) :: ns)
    else none
  | _ => none

/-- The fields of a BEACON after its kind and site ID (R119, R196: 9 + 4n bytes with n at most 6). -/
def parseBeacon (site : Nat) : List Byte → Option AirFrame
  | c1 :: c0 :: load :: cls :: acc :: n :: rest =>
    if channelOk (u16 c1 c0) && decide (load.toNat ≤ 3) && decide (cls.toNat ≤ 3) && decide (n.toNat ≤ 6) &&
        decide (rest.length = 4 * n.toNat) then
      match boolOfCode acc.toNat, parseNeighbours rest with
      | some accepting, some ns => some (.beacon ⟨site, u16 c1 c0, load.toNat, cls.toNat, accepting, ns⟩)
      | _, _ => none
    else none
  | _ => none

/-- A serving level byte: 0xFF is absent (R196). -/
def levelOfByte (b : Byte) : Option Nat := if b.toNat = 255 then none else some b.toNat

/-- The fields of a GRANT (R119, R196). -/
def parseGrant (site : Nat) : List Byte → Option AirFrame
  | [u1, u0, slot, sense] =>
    match slotOfByte slot, senseOfCode sense.toNat with
    | some sl, some se => some (.grant site (u16 u1 u0) sl se)
    | _, _ => none
  | _ => none

/-- The fields of a REFUSE (R119, R196). -/
def parseRefuse (site : Nat) : List Byte → Option AirFrame
  | [u1, u0, reason, retry] => (refuseOfCode reason.toNat).map (fun r => .refuse site (u16 u1 u0) r retry.toNat)
  | _ => none

/-- The fields of a RELEASE (R119, R196). -/
def parseRelease (site : Nat) : List Byte → Option AirFrame
  | [u1, u0, retry] => some (.release site (u16 u1 u0) retry.toNat)
  | _ => none

/-- A ROLL CALL has no further field (R119, R196). -/
def parseRollCall (site : Nat) : List Byte → Option AirFrame
  | [] => some (.rollCall site)
  | _ => none

/-- The fields of a STATUS QUERY (R119, R196). -/
def parseStatusQuery (site : Nat) : List Byte → Option AirFrame
  | [u1, u0] => some (.statusQuery site (u16 u1 u0))
  | _ => none

/-- The fields of a DIRECT (R119, R196). -/
def parseDirect (site : Nat) : List Byte → Option AirFrame
  | [k, a1, a0, t1, t0, c1, c0] =>
    if siteOk (u16 t1 t0) && channelOk (u16 c1 c0) then
      (addressOfCode k.toNat).map (fun ak => .direct site ak (u16 a1 a0) (u16 t1 t0) (u16 c1 c0))
    else none
  | _ => none

/-- The fields of a REGISTER (R119, R196). -/
def parseRegister (site : Nat) : List Byte → Option AirFrame
  | [u1, u0, g1, g0, p1, p0, e] =>
    (boolOfCode e.toNat).map (fun em => .register site (u16 u1 u0) (u16 g1 g0) (u16 p1 p0) em)
  | _ => none

/-- The fields of a ROLL ANSWER (R119, R196). -/
def parseRollAnswer (site : Nat) : List Byte → Option AirFrame
  | [u1, u0, slot] => (slotOfByte slot).map (fun sl => .rollAnswer site (u16 u1 u0) sl)
  | _ => none

/-- The fields of a STATUS REPORT (R119, R196). -/
def parseStatusReport (site : Nat) : List Byte → Option AirFrame
  | [u1, u0, flags, level, count] =>
    some (.statusReport site (u16 u1 u0)
      ⟨flags.getLsbD 0, flags.getLsbD 1, flags.getLsbD 2, flags.getLsbD 3⟩ (levelOfByte level) count.toNat)
  | _ => none

/-- The fields of a DEREGISTER (R119, R196). -/
def parseDeregister (site : Nat) : List Byte → Option AirFrame
  | [u1, u0] => some (.deregister site (u16 u1 u0))
  | _ => none

/-- The fields of an air frame after its kind and site ID, by kind (R119; the layouts of R196). -/
def parseAirFields (kind : Nat) (site : Nat) (fields : List Byte) : Option AirFrame :=
  if kind = 0x11 then parseBeacon site fields
  else if kind = 0x12 then parseGrant site fields
  else if kind = 0x13 then parseRefuse site fields
  else if kind = 0x14 then parseRelease site fields
  else if kind = 0x15 then parseRollCall site fields
  else if kind = 0x16 then parseStatusQuery site fields
  else if kind = 0x17 then parseDirect site fields
  else if kind = 0x21 then parseRegister site fields
  else if kind = 0x22 then parseRollAnswer site fields
  else if kind = 0x23 then parseStatusReport site fields
  else if kind = 0x24 then parseDeregister site fields
  else none

/-- An air frame from its bytes; `none` is a malformed frame (R119). -/
def parseAir : List Byte → Option AirFrame
  | kind :: s1 :: s0 :: fields => if siteOk (u16 s1 s0) then parseAirFields kind.toNat (u16 s1 s0) fields else none
  | _ => none

/-! ### Air frames out (R196) -/

def slotByte : Option Nat → Byte
  | some n => byte n
  | none => 0xFF

def boolByte (b : Bool) : Byte := if b then 1 else 0

end Sys2Proof.Machine
end

