-- ==== Sys2Proof/Machine/Flags.lean ====
section
/-! DEFINITION. Flag bytes: bits counted from bit 0, the least significant (R196), the air frames and notices that
carry them, and the frame of a record. -/

namespace Sys2Proof.Machine

/-- The number whose bits, from bit 0 up, are the list. -/
def bitsNat : List Bool → Nat
  | [] => 0
  | b :: bs => (if b then 1 else 0) + 2 * bitsNat bs

/-- A flag byte (R196); bits not named are 0. -/
def flagByte (bits : List Bool) : Byte := byte (bitsNat bits)

/-- The flags byte of a STATUS REPORT (R196). -/
def ReportFlags.byte (f : ReportFlags) : Byte := flagByte [f.request, f.emergency, f.batteryLow, f.fading]

def neighbourBytes : List (Nat × Nat) → List Byte
  | [] => []
  | n :: ns => bytes16 n.1 ++ bytes16 n.2 ++ neighbourBytes ns

/-- The bytes of an air frame (R196). -/
def AirFrame.bytes : AirFrame → List Byte
  | .beacon b =>
    [0x11] ++ bytes16 b.site ++ bytes16 b.channel ++
      [byte b.load, byte b.cls, boolByte b.accepting, byte b.neighbours.length] ++ neighbourBytes b.neighbours
  | .grant site unit slot sense => [0x12] ++ bytes16 site ++ bytes16 unit ++ [slotByte slot, byte sense.code]
  | .refuse site unit reason retry => [0x13] ++ bytes16 site ++ bytes16 unit ++ [byte reason.code, byte retry]
  | .release site unit retry => [0x14] ++ bytes16 site ++ bytes16 unit ++ [byte retry]
  | .rollCall site => [0x15] ++ bytes16 site
  | .statusQuery site unit => [0x16] ++ bytes16 site ++ bytes16 unit
  | .direct site kind address target channel =>
    [0x17] ++ bytes16 site ++ [byte kind.code] ++ bytes16 address ++ bytes16 target ++ bytes16 channel
  | .register site unit group previous emergency =>
    [0x21] ++ bytes16 site ++ bytes16 unit ++ bytes16 group ++ bytes16 previous ++ [boolByte emergency]
  | .rollAnswer site unit slot => [0x22] ++ bytes16 site ++ bytes16 unit ++ [slotByte slot]
  | .statusReport site unit flags level count =>
    [0x23] ++ bytes16 site ++ bytes16 unit ++ [flags.byte, byte (level.getD 255), byte count]
  | .deregister site unit => [0x24] ++ bytes16 site ++ bytes16 unit

/-- The bit of a notice kind in the enable set: kind 0xC1 + n has bit n (R196). -/
def Notice.index : Notice → Nat
  | .roamed .. => 0
  | .handoverFailed .. => 1
  | .servingState .. => 2
  | .noService .. => 3
  | .transmit .. => 4
  | .lineChange .. => 5
  | .watchReport .. => 6
  | .engineState .. => 7
  | .siteLearned .. => 8
  | .siteEvicted .. => 9
  | .battery .. => 10
  | .directRefused .. => 11
  | .released .. => 12

/-- TRANSMIT is the kind that cannot be disabled or lost (R190, R193). -/
def Notice.isTransmit (n : Notice) : Bool := n.index == 4

/-- The fields of a notice after its tag and flags (R196). -/
def Notice.fields : Notice → List Byte
  | .roamed fromSite toSite cause => bytes16 fromSite ++ bytes16 toSite ++ [byte cause.code]
  | .handoverFailed target cause reason refuse =>
    bytes16 target ++ [byte cause.code, byte reason.code, byte ((refuse.map RefuseReason.code).getD 255)]
  | .servingState site state => bytes16 site ++ [byte state.code]
  | .noService site cause => bytes16 site ++ [byte cause.code]
  | .transmit number delay frame => [byte number] ++ bytes16 delay ++ frame.bytes
  | .lineChange pending levels => [flagByte pending, flagByte levels]
  | .watchReport slot site source level =>
    [byte slot] ++ bytes16 site ++ [byte source.code, byte ((level.map Level.mean).getD 255)] ++
      bytes16 ((level.map Level.f16).getD 65535)
  | .engineState state cause slot => [byte state.code, byte cause.code, byte (slot.getD 0)]
  | .siteLearned site channel position source =>
    bytes16 site ++ bytes16 channel ++ [byte position, byte source.code]
  | .siteEvicted site channel position advAge =>
    bytes16 site ++ bytes16 channel ++ [byte position, byte advAge]
  | .battery condition mode code => [byte condition.code, byte mode.code, code.getD 0]
  | .directRefused target reason => bytes16 target ++ [byte reason.code]
  | .released site rounds => bytes16 site ++ [byte rounds]

/-- The sum of bytes modulo 256 (R180). -/
def byteSum : List Byte → Byte
  | [] => 0
  | b :: bs => b + byteSum bs

/-- A record on the wire: start byte, length, kind, payload, and the check byte that makes the sum of all but the
start byte 0 modulo 256 (R180). -/
def recordBytes (kind : Byte) (payload : List Byte) : List Byte :=
  let body := byte (payload.length + 1) :: kind :: payload
  [0x7E] ++ body ++ [0 - byteSum body]

/-- The levels of one byte on a serial line, one for each of its ten bit times: 8 data bits, the least significant first,
no parity and one stop bit (R180). DEDUCED (log entry 43): the first bit time is a low start bit, and the stop bit is
high. -/
def byteLevels (b : Byte) : List Bool := false :: (List.range 8).map b.getLsbD ++ [true]

/-- The levels of a record's bytes, sent one after another without pause (R180). -/
def recordLevels (bytes : List Byte) : List Bool := bytes.flatMap byteLevels

/-- A reply on the wire: tag, code, data (R184, R196). -/
def Reply.bytes (r : Reply) : List Byte := recordBytes r.kind (r.tag :: byte r.code.code :: r.data)

/-- A notice on the wire: tag 0, flags with LOST in bit 0, fields (R191, R196). -/
def Queued.bytes (q : Queued) : List Byte :=
  recordBytes (byte (0xC1 + q.notice.index)) (0 :: flagByte [q.lost] :: q.notice.fields)

end Sys2Proof.Machine
end

