-- ==== Sys2Proof/Machine/Ops.lean ====
section
/-! DEFINITION. The operations every block uses: the notice queue and the transmitter, the lookups and updates of the
site table, the roles of a record, the reading of the input lines, and the engine's freeze with the watches. -/

namespace Sys2Proof.Machine

/-! ### The notice queue (R191 to R193) -/

/-- Whether the kind of a notice is in the enable set; TRANSMIT always is (R190). -/
def noticeEnabled (enabled : BitVec 16) (n : Notice) : Bool := n.isTransmit || enabled.getLsbD n.index

/-- The queue without its newest notice that is not a TRANSMIT; `none` when it holds no such notice (R193). -/
def dropNewestOther : List Queued → Option (List Queued)
  | [] => none
  | q :: qs =>
    match dropNewestOther qs with
    | some qs' => some (q :: qs')
    | none => if q.notice.isTransmit then none else some qs

/-- The queue after a TRANSMIT has made room in a full one (R193). DESIGN CHOICE (log entry 6): where all 16 are
TRANSMIT notices, the one that gives way is a free value. -/
def displaceOne (queue : List Queued) (freeCount : Nat) : List Queued :=
  match dropNewestOther queue with
  | some queue' => queue'
  | none => queue.eraseIdx (Config.displacedTransmit freeCount % queue.length)

/-- Queuing a notice (R191), losing it (R192) or making room for a TRANSMIT (R193). -/
def Part.queueNotice (n : Notice) (p : Part) : Part :=
  if noticeEnabled p.link.enabled n then
    if p.link.notices.length < 16 then
      { p with link.notices := p.link.notices ++ [⟨n, p.link.lost⟩], link.lost := false }
    else if n.isTransmit then
      { p with
        link.notices := displaceOne p.link.notices p.freeCount ++ [⟨n, true⟩]
        link.lost := false
        freeCount := p.freeCount + (if (dropNewestOther p.link.notices).isSome then 0 else 1) }
    else { p with link.lost := true }
  else p

/-- The transmitter, when idle, takes the reply of the reply slot and otherwise the oldest notice, and puts its levels on LTX
(R180, R185). -/
def Part.startSending (p : Part) : Part :=
  match p.link.tx with
  | .idle =>
    match p.link.reply, p.link.notices with
    | some r, _ => { p with link.tx := .reply r.bytes, link.ltx := recordLevels r.bytes }
    | none, q :: qs =>
      { p with link.tx := .notice q.bytes, link.ltx := recordLevels q.bytes, link.notices := qs }
    | none, [] => p
  | _ => p

/-! ### The site table: lookups and updates -/

/-- The occupied slots with their positions, in ascending order, counted from `i`. -/
def occupiedFrom (i : Nat) : List (Option SiteRecord) → List (Nat × SiteRecord)
  | [] => []
  | some r :: rest => (i, r) :: occupiedFrom (i + 1) rest
  | none :: rest => occupiedFrom (i + 1) rest

/-- The occupied slots of the table with their positions (R21). -/
def Part.occupied (p : Part) : List (Nat × SiteRecord) := occupiedFrom 0 p.table

/-- The record at a position, absent when the slot is empty. -/
def Part.slotAt (p : Part) (position : Nat) : Option SiteRecord := (p.table[position]?).join

/-- The position and record of a site ID (R1: at most one record carries it). -/
def Part.find (p : Part) (site : Nat) : Option (Nat × SiteRecord) := p.occupied.find? (fun x => x.2.site == site)

def Part.record (p : Part) (site : Nat) : Option SiteRecord := (p.find site).map Prod.snd

/-- Changing every record of the table in its slot. -/
def Part.mapRecords (f : SiteRecord → SiteRecord) (p : Part) : Part :=
  { p with table := p.table.map (Option.map f) }

/-- Changing the record of one site in its slot. -/
def Part.updateRec (site : Nat) (f : SiteRecord → SiteRecord) (p : Part) : Part :=
  p.mapRecords (fun r => if r.site == site then f r else r)

/-- Among the entries with the greatest key, the one that stands first, which is the lowest position in a list of
ascending positions (00_scope.md, Ties). -/
def pickMax (key : SiteRecord → Nat) : List (Nat × SiteRecord) → Option (Nat × SiteRecord)
  | [] => none
  | x :: xs =>
    match pickMax key xs with
    | none => some x
    | some y => if key y.2 ≤ key x.2 then some x else some y

/-! ### Roles (R11) -/

/-- The serving record's channel, absent while affiliation is NONE. -/
def Part.servingChannel (p : Part) : Option Nat :=
  match p.aff.serving with
  | some s => (p.record s).map SiteRecord.channel
  | none => none

/-- A record is co-channel: affiliation is not NONE, it is not the serving record, and its channel is the serving
record's (R11). -/
def Part.coChannel (p : Part) (r : SiteRecord) : Bool :=
  p.servingChannel == some r.channel && p.aff.serving != some r.site

/-- The handover target: the target of the context, until a failure has been handled (R125, R129). -/
def Part.target (p : Part) : Option Nat :=
  if p.aff.machine = .hoReturn then none else p.aff.ctx.map Context.target

/-- Whether a watch slot names the site ID (R166). -/
def Part.watched (p : Part) (site : Nat) : Bool :=
  (p.engine.watch0.map Watch.site == some site) || (p.engine.watch1.map Watch.site == some site)

/-- The bars that keep a record out of visits, loss selection and directed moves (R8). -/
def SiteRecord.blocked (r : SiteRecord) : Bool :=
  match r.bar with
  | some b => b.kind == .refused || b.kind == .failed
  | none => false

/-- Setting a bar; 0 rounds leaves the bar field as it was (R8). -/
def SiteRecord.setBar (kind : BarKind) (rounds : Nat) (r : SiteRecord) : SiteRecord :=
  if rounds = 0 then r else { r with bar := some ⟨kind, rounds⟩ }

/-- The machine is at rest in NONE and REGISTERED (R116). -/
def HoState.atRest (m : HoState) : Bool := m == .none || m == .registered

/-! ### The input lines (R169) -/

def Lines.get (l : Lines) : Input → InputLine
  | .ptt => l.ptt
  | .call => l.call
  | .emerg => l.emerg
  | .batt => l.batt

def Lines.set (l : Lines) (i : Input) (x : InputLine) : Lines :=
  match i with
  | .ptt => { l with ptt := x }
  | .call => { l with call := x }
  | .emerg => { l with emerg := x }
  | .batt => { l with batt := x }

/-- A level is the one the polarity names as active (R169). -/
def Polarity.activeAt : Polarity → Bool → Bool
  | .activeHigh, level => level
  | .activeLow, level => !level

/-- An input is active when its debounced level is the one its polarity names; unknown is inactive (R169). -/
def InputLine.active (x : InputLine) : Bool :=
  match x.debounced with
  | some level => x.polarity.activeAt level
  | none => false

def Part.active (p : Part) (i : Input) : Bool := (p.lines.get i).active

/-! ### The two outputs (R39, R117, R177) -/

/-- MUTE and TXINH as their conditions give: MUTE is released exactly when the position is HOME and the affiliation
state REGISTERED (R39), TXINH asserted exactly while the machine is away from rest (R117). They are re-judged at once, at
every change of the position and of the affiliation state (R116, R177); a change of MUTE is counted. -/
def Part.driveOutputs (p : Part) : Part :=
  let mute := !(p.tuning.position == .home && p.aff.machine == .registered && p.aff.serving.isSome)
  { p with
    lines.mute := mute
    lines.txinh := !p.aff.machine.atRest
    lines.muteEdges := if mute = p.lines.mute then p.lines.muteEdges else p.lines.muteEdges + 1 }

/-- A change of the machine's state between rest and away from it, handed to the line monitor at once (R116). A change
among the states away from rest moves neither output. -/
def Part.setMachine (m : HoState) (p : Part) : Part := ({ p with aff.machine := m } : Part).driveOutputs

/-! ### Engine notices, freezes and watches (R152, R155, R160, R163 to R165) -/

/-- The state change is complete, then ENGINE_STATE is queued (R152). -/
def Part.engineNotice (cause : EngineCause) (slot : Option Nat) (p : Part) : Part :=
  p.queueNotice (.engineState p.engine.state cause slot)

/-- A freeze ends a STEP round, and the round's request stops being current (R155, R160, R42). -/
def Part.endRound (p : Part) : Part :=
  { p with engine.stepFlag := false, engine.roundTimer := none, sched.work := none }

/-- The freeze by a watch (R155). Over R98's first row, R155 and R160 give the case of a STEP round taken in FROZEN:
an unchanged cause queues nothing (DEDUCED, log entry 11). -/
def Part.freezeWatch (slot : Nat) (p : Part) : Part :=
  match p.engine.state with
  | .frozen .tune => p.endRound
  | .frozen (.watch t) =>
    if t = slot then p.endRound
    else ({ p.endRound with engine.state := .frozen (.watch slot) } : Part).engineNotice .watch (some slot)
  | _ => ({ p.endRound with engine.state := .frozen (.watch slot) } : Part).engineNotice .watch (some slot)

/-- The freeze by a tune fault; a further fault in FROZEN with cause TUNE is reported again and clears the continue
pending mark (R155, R157). -/
def Part.freezeTune (p : Part) : Part :=
  ({ p.endRound with engine.state := .frozen .tune, engine.continuePending := false } : Part).engineNotice .tune none

/-- A watch matches a write (R164). -/
def Watch.matchesWrite (w : Watch) (site : Nat) (source : WriteSource) : Bool :=
  (w.mode == .report || w.mode == .holdOnChange) && (w.site == site || w.site == 0) &&
    (w.source == some source || w.source == none)

/-- One slot's answer to a write: its report, then its hold (R164, R165). -/
def Part.offerSlot (slot : Nat) (watch : Option Watch) (site : Nat) (source : WriteSource) (p : Part) : Part :=
  match watch with
  | some w =>
    if w.matchesWrite site source then
      let p := p.queueNotice (.watchReport slot site source ((p.record site).bind SiteRecord.level))
      if w.mode == .holdOnChange then p.freezeWatch slot else p
    else p
  | none => p

/-- A complete write is offered to slot 0 and then to slot 1 (R163). -/
def Part.offerWrite (site : Nat) (source : WriteSource) (p : Part) : Part :=
  (p.offerSlot 0 p.engine.watch0 site source).offerSlot 1 p.engine.watch1 site source

/-- A HOLD_ON_SELECT watch that names the site or any site; its source is not consulted (R98). -/
def Watch.holdsSelection (w : Watch) (site : Nat) : Bool :=
  w.mode == .holdOnSelect && (w.site == site || w.site == 0)

/-- The lower of the slots that hold the selection of a site (R98). -/
def Engine.holdingSlot (e : Engine) (site : Nat) : Option Nat :=
  if (e.watch0.map (fun w => w.holdsSelection site)).getD false then some 0
  else if (e.watch1.map (fun w => w.holdsSelection site)).getD false then some 1
  else none

/-- RUNNING, or a STEP round in progress (R92, R96, R98). -/
def Engine.working (e : Engine) : Bool := e.state == .running || e.stepFlag

/-- The select check of R98: whether the handover may begin, and the freeze where a watch holds it. -/
def Part.selectCheck (site : Nat) (cause : Cause) (p : Part) : Bool × Part :=
  if cause == .acquire && !p.engine.working then (false, p)
  else
    match p.engine.holdingSlot site with
    | some slot => (false, p.freezeWatch slot)
    | none => (true, p)

/-- The engine becomes RUNNING with the round timer at its full period (R153, R156, R157). -/
def Part.startRunning (cause : EngineCause) (p : Part) : Part :=
  ({ p with engine.state := .running, engine.roundTimer := some p.params.roundMs } : Part).engineNotice cause none

/-- READY handed to the engine: it does something only while a CONTINUE is pending (R157). -/
def Part.engineReady (p : Part) : Part :=
  if p.engine.continuePending then
    ({ p with engine.continuePending := false } : Part).startRunning .cont
  else p

end Sys2Proof.Machine
end

