-- ==== Sys2Proof/Machine/Levels.lean ====
section
/-! DEFINITION. Level arithmetic (chapter 4): from a converter code to a level, a mean, a filtered level and a score. -/

namespace Sys2Proof.Machine

/-- A code turned into a level q with the calibration that stands (R60, R61). -/
def levelOfCode (ps : Params) (code : Byte) : Nat :=
  (clampInt (((code.toNat * ps.calSlope / 16 : Nat) : Int) + ps.calOffset) 0 240).toNat

/-- The mean of a complete run (R62). -/
def SampleRun.mean (run : SampleRun) : Nat := run.sum / run.count

/-- The gain by the sign of the difference (R65). -/
def filterGain (ps : Params) (d : Int) : Nat := if 0 ≤ d then ps.kUp else ps.kDown

/-- The step: d times k divided by 16, the fraction discarded whatever the sign (R65). -/
def filterStep (ps : Params) (d : Int) : Int := (d * (filterGain ps d : Int)).tdiv 16

/-- The new filtered level: the mean outright at a first crediting, the filter afterwards (R64, R65). -/
def filterLevel (ps : Params) (old : Option Level) (mean : Nat) : Level :=
  match old with
  | none => ⟨mean, 16 * mean⟩
  | some l => ⟨mean, ((l.f16 : Int) + filterStep ps (16 * (mean : Int) - (l.f16 : Int))).toNat⟩

/-- A record after a crediting: level, age 0, failures 0 (R64, R65). -/
def SiteRecord.credit (ps : Params) (mean : Nat) (r : SiteRecord) : SiteRecord :=
  { r with level := some (filterLevel ps r.level mean), age := 0, failures := 0 }

/-- The filtered q, the floor of F16 / 16 (R68). -/
def Level.q (l : Level) : Nat := l.f16 / 16

/-- The filtered q of a record with a level. -/
def SiteRecord.q (r : SiteRecord) : Option Nat := r.level.map Level.q

/-- The score of a record with a level (R69, R70). -/
def scoreOf (ps : Params) (r : SiteRecord) (l : Level) : Nat :=
  (clampInt ((l.q : Int) + r.bias - ((ps.loadStep * r.load.getD 0 : Nat) : Int)) 0 255).toNat

/-- The score used for ranking. A record without a level is not ranked (R69); every list that is ranked holds
records with a level only. -/
def scoreKey (ps : Params) (r : SiteRecord) : Nat :=
  match r.level with
  | some l => scoreOf ps r l
  | none => 0

/-- The effective HYST (R72). -/
def Part.effectiveHyst (p : Part) : Nat := if p.active .emerg then p.params.hyst / 2 else p.params.hyst

/-- The effective DWELL of a judgement with its cause (R73, R88). -/
def Part.effectiveDwell (p : Part) (cause : Cause) : Nat :=
  if cause == .fading || p.active .emerg then 1 else p.params.dwell

/-- A mean credited to a site's record and offered to the watches as source SCAN (R51, R64, R65). -/
def Part.credit (site mean : Nat) (p : Part) : Part :=
  (p.updateRec site (SiteRecord.credit p.params mean)).offerWrite site .scan

end Sys2Proof.Machine
end

