-- ==== Sys2Proof/Machine/Table.lean ====
section
/-! DEFINITION. The site table's own operations (chapter 1): creation, eviction, removal, channel change,
confirmation, learning. -/

namespace Sys2Proof.Machine

/-- A record as it is created (R3). -/
def SiteRecord.fresh (site channel : Nat) (origin : Origin) (bias : Int) : SiteRecord where
  site := site
  channel := channel
  origin := origin
  bias := bias
  level := none
  age := 0
  confirm := none
  load := none
  bar := none
  failures := 0
  advAge := 0

/-- What a channel change does to a record; load class, bias and advertised age are kept (R18, R22). -/
def SiteRecord.rechannel (channel : Nat) (r : SiteRecord) : SiteRecord :=
  { r with channel := channel, level := none, age := 0, confirm := none, bar := none, failures := 0 }

/-- A record that leaves its slot or changes channel no longer stands for a measurement begun on it (R12). -/
def Part.unsettle (site : Nat) (p : Part) : Part :=
  { p with
    sched.burst := p.sched.burst.map (fun b => if b.site == site then { b with standing := false } else b)
    sched.gap := p.sched.gap.map (fun g =>
      { g with
        standing := g.standing && g.site != site
        noted := g.noted.map (fun n => if n.site == site then { n with standing := false } else n) }) }

/-- Changing the channel of a record (R18, R22). -/
def Part.rechannel (site channel : Nat) (p : Part) : Part :=
  (p.updateRec site (SiteRecord.rechannel channel)).unsettle site

/-- Emptying the slot of a site's record (R2, R19, R24). -/
def Part.removeRec (site : Nat) (p : Part) : Part :=
  ({ p with table := p.table.map (fun o => o.bind (fun r => if r.site == site then none else some r)) } :
    Part).unsettle site

/-- The lowest empty slot (R2). -/
def Part.lowestEmpty (p : Part) : Option Nat := p.table.findIdx? Option.isNone

/-- Records that eviction may choose (R24); `keep` are the records the same neighbour list created or refreshed. -/
def Part.evictable (p : Part) (keep : List Nat) (r : SiteRecord) : Bool :=
  r.origin == .learned && p.aff.serving != some r.site && p.engine.cand.map Candidate.site != some r.site &&
    p.target != some r.site && !p.watched r.site && !keep.contains r.site

/-- The victim: the greatest advertised age, and the lower position among equals (R24). -/
def Part.victim (p : Part) (keep : List Nat) : Option (Nat × SiteRecord) :=
  pickMax SiteRecord.advAge (p.occupied.filter (fun x => p.evictable keep x.2))

/-- Room for a new record: an empty slot, or the slot of the victim with its SITE_EVICTED notice (R2, R24). -/
def Part.makeRoom (keep : List Nat) (p : Part) : Option (Nat × Part) :=
  match p.lowestEmpty with
  | some i => some (i, p)
  | none =>
    match p.victim keep with
    | some (i, v) => some (i, (p.removeRec v.site).queueNotice (.siteEvicted v.site v.channel i v.advAge))
    | none => none

/-- Placing a record in a slot. -/
def Part.place (position : Nat) (r : SiteRecord) (p : Part) : Part :=
  { p with table := p.table.set position (some r) }

/-- A learned addition (R23); `none` when it is forgone. -/
def Part.learn (site channel : Nat) (source : LearnSource) (keep : List Nat) (p : Part) : Option Part :=
  match p.makeRoom keep with
  | some (i, p) =>
    some ((p.place i (SiteRecord.fresh site channel .learned 0)).queueNotice (.siteLearned site channel i source))
  | none => none

/-- One entry of a serving beacon's neighbour list (R22). The list is of the records that this neighbour list has
created or refreshed. -/
def Part.learnEntry (entry : Nat × Nat) (x : List Nat × Part) : List Nat × Part :=
  let (keep, p) := x
  let (site, channel) := entry
  if p.aff.serving == some site then (keep, p)
  else
    match p.record site with
    | none =>
      match p.learn site channel .neighbour keep with
      | some p' => (site :: keep, p')
      | none => (keep, p)
    | some r =>
      let p' := if r.origin == .learned && r.channel != channel && p.target != some site then p.rechannel site channel else p
      (site :: keep, p'.updateRec site (fun r => { r with advAge := 0 }))

/-- The whole list, entry by entry in its order (R22). -/
def Part.learnNeighbours (entries : List (Nat × Nat)) (p : Part) : Part :=
  (entries.foldl (fun x e => Part.learnEntry e x) ([], p)).2

/-- Removing the confirmation of every non-serving record on a channel but one (R13, R15). -/
def Part.unconfirmOthers (channel site : Nat) (p : Part) : Part :=
  p.mapRecords (fun r =>
    if r.channel == channel && r.site != site && p.aff.serving != some r.site then { r with confirm := none } else r)

/-- A request to confirm is not carried out: the machine is away from rest and the record is not the target but on the
target's channel (R14). -/
def Part.confirmHeld (p : Part) (r : SiteRecord) : Bool :=
  !p.aff.machine.atRest &&
    match p.target with
    | some t => r.site != t && (p.record t).map SiteRecord.channel == some r.channel
    | none => false

/-- The table writes of an accepted beacon whose site's record is on its channel: the confirmation unless held, the
load class, and one write of source BEACON (R7, R13, R14). -/
def Part.confirmFromBeacon (r : SiteRecord) (load : Nat) (p : Part) : Part :=
  let p :=
    if p.confirmHeld r then p
    else (p.unconfirmOthers r.channel r.site).updateRec r.site (fun r => { r with confirm := some 0 })
  (p.updateRec r.site (fun r => { r with load := some load })).offerWrite r.site .beacon

/-- The counters of one record at a round: age while a level is present, confirm age, advertised age, each saturating
at 255 (R78), the end of a confirmation by age (R79) and the countdown of a bar (R80). -/
def SiteRecord.roundCount (confirmLife : Nat) (exempt : Bool) (r : SiteRecord) : SiteRecord :=
  { r with
    age := if r.level.isSome then min 255 (r.age + 1) else 0
    confirm := r.confirm.bind (fun a =>
      if !exempt && decide (confirmLife < min 255 (a + 1)) then none else some (min 255 (a + 1)))
    advAge := min 255 (r.advAge + 1)
    bar := r.bar.bind (fun b => if b.remaining ≤ 1 then none else some { b with remaining := b.remaining - 1 }) }

/-- The round counters of the site table; the serving record and the handover target keep their confirmation (R79). -/
def Part.countTable (p : Part) : Part :=
  p.mapRecords (fun r =>
    r.roundCount p.params.confirmLife (p.aff.serving == some r.site || p.target == some r.site))

/-- RESET ENGINE: LEARNED records are removed, PINNED ones are as at creation (R25). -/
def SiteRecord.afterEngineReset (r : SiteRecord) : Option SiteRecord :=
  match r.origin with
  | .pinned => some (SiteRecord.fresh r.site r.channel .pinned r.bias)
  | .learned => none

end Sys2Proof.Machine
end

