-- ==== Sys2Proof/Machine/Converter.lean ====
section
/-! DEFINITION. The shared converter (section 10.4) and the run of samples the scan scheduler takes with it (R43). -/

namespace Sys2Proof.Machine

/-- A run of samples as it begins, with the values of SAMPLES and SAMPLE_MS then standing (R43, R58). -/
def SampleRun.begin (ps : Params) : SampleRun where
  count := ps.samples
  spacing := ps.sampleMs
  taken := 0
  sum := 0
  phase := .waiting

/-- The run now being taken: the burst's, or else the gap's. -/
def Part.run (p : Part) : Option SampleRun :=
  match p.sched.burst with
  | some b => some b.run
  | none => p.sched.gap.map Gap.run

/-- Changing the run now being taken. -/
def Part.mapRun (f : SampleRun → SampleRun) (p : Part) : Part :=
  match p.sched.burst with
  | some b => { p with sched.burst := some { b with run := f b.run } }
  | none => { p with sched.gap := p.sched.gap.map (fun g => { g with run := f g.run }) }

/-- A battery conversion is taken: the battery timer starts again at it (R174). -/
def Part.takeBattery (p : Part) : Part :=
  { p with conv.state := .battery true, lines.battTimer := some 1000 }

/-- The converter is given to the scheduler, whose first sample is taken at once (R43, R176). -/
def Part.takeRssi (p : Part) : Part :=
  ({ p with conv.state := .rssi } : Part).mapRun (fun r => { r with phase := .converting })

/-- A request goes to the one waiting place (R176). DESIGN CHOICE (log entry 22): where both users would wait, which
two LINES SET within one conversion could bring about, the RSSI run waits and the battery timer starts again. -/
def Part.waitConverter (user : ConvUser) (p : Part) : Part :=
  match p.conv.waiting with
  | none => { p with conv.waiting := some user }
  | some w =>
    if w = user then p else { p with conv.waiting := some .rssi, lines.battTimer := some 1000 }

/-- The scheduler asks for the converter (R176). -/
def Part.askRssi (p : Part) : Part := if p.conv.state = .idle then p.takeRssi else p.waitConverter .rssi

/-- The line monitor asks for the converter (R176). -/
def Part.askBattery (p : Part) : Part := if p.conv.state = .idle then p.takeBattery else p.waitConverter .battery

/-- The holder ends: the waiting request is taken at once, or the converter becomes idle (R176). -/
def Part.releaseConverter (p : Part) : Part :=
  match p.conv.waiting with
  | some .rssi => ({ p with conv.waiting := none } : Part).takeRssi
  | some .battery => ({ p with conv.waiting := none } : Part).takeBattery
  | none => { p with conv.state := .idle }

/-- An RSSI run that ends before its last sample gives up the converter, or its place waiting for it (R44, R53). -/
def Part.stopRun (p : Part) : Part :=
  let p := if p.conv.waiting = some .rssi then { p with conv.waiting := none } else p
  if p.conv.state = .rssi then p.releaseConverter else p

/-- The scheduler comes to the first gap of a HOME round while the battery is LOW: the conserve countdown falls by
one, saturating at 0 (R46). -/
def Part.passFirstGap (p : Part) : Part :=
  match p.sched.work with
  | some w =>
    if w.kind == .home && w.visited.isEmpty && p.lines.battery == .low then
      { p with sched.conserve := p.sched.conserve - 1 }
    else p
  | none => p

/-- The gap and all the round's later gaps are skipped, which ends the round's work (R45, R57). -/
def Part.skipGaps (p : Part) : Part := { p with sched.work := none }

/-- A serving burst in flight is discarded (R44). The first gap of its round cannot start after it: PTT is active or
the position is not HOME. -/
def Part.discardBurst (p : Part) : Part :=
  match p.sched.burst with
  | some _ => ((({ p.stopRun with sched.burst := none } : Part)).passFirstGap).skipGaps
  | none => p

end Sys2Proof.Machine
end

