-- ==== Sys2Proof/Machine/Tuning.lean ====
section
/-! DEFINITION. The tuning unit (chapter 2): the tuning word, the position, the tune operation, the two clients and
the arbiter. -/

namespace Sys2Proof.Machine

/-- The tuning word: SYN_PREFIX times 1024 plus the channel index, in 24 bits (R26). -/
def tuningWord (synPrefix channel : Nat) : TuningWord := BitVec.ofNat 24 (synPrefix * 1024 + channel)

/-- The bits of the word in the order in which they are shifted: the most significant first (R26). -/
def wordBits (w : TuningWord) : List Bool := (List.range 24).map w.getMsbD

/-- One bit on the lines: TDAT takes it with TCLK low, then TCLK rises (R26). -/
def clockLevels (bit : Bool) : List TuningPins := [⟨false, bit, false⟩, ⟨true, bit, false⟩]

/-- The lines as a shift begins: the first bit on TDAT, the first clock still to come. DESIGN CHOICE (log entry 39): they
stand so until the shift and latch are done. -/
def firstLevels (w : TuningWord) : TuningPins := ⟨false, w.msb, false⟩

/-- The levels of one shift and latch, oldest first: the 24 bits, the lines low, the pulse of TLE, the lines low (R26).
DESIGN CHOICE (log entry 39): TDAT changes with TCLK low, and falls with TCLK after the last bit. -/
def shiftLevels (w : TuningWord) : List TuningPins :=
  (wordBits w).flatMap clockLevels ++ [.low, ⟨false, false, true⟩, .low]

/-- The synthesizer on the lines: the levels it saw last, the bits it has taken, and the word in effect. -/
structure Synthesizer where
  pins : TuningPins
  taken : TuningWord
  inEffect : Option TuningWord
  deriving DecidableEq, Repr

/-- The synthesizer sees new levels: a rising edge of TCLK takes TDAT, and TLE going high puts the bits taken in effect
(R26). -/
def Synthesizer.sees (y : Synthesizer) (now : TuningPins) : Synthesizer :=
  let taken := if now.tclk && !y.pins.tclk then y.taken.shiftConcat now.tdat else y.taken
  { pins := now, taken := taken, inEffect := if now.tle && !y.pins.tle then some taken else y.inEffect }

/-- The word that a run of levels from rest puts in effect in the synthesizer. -/
def wordTaken (levels : List TuningPins) : Option TuningWord :=
  (levels.foldl Synthesizer.sees ⟨.low, 0, none⟩).inEffect

/-- The shift and the latch are carried out whole, and the lines rest low again (R26). -/
def Part.shiftOut (w : TuningWord) (p : Part) : Part :=
  let levels := shiftLevels w
  { p with tuning.pins := .low, tuning.driven := levels, tuning.latched := wordTaken levels }

/-- The receiver position of R28's table. -/
def Part.positionNow (p : Part) : Position :=
  match p.aff.serving with
  | none => .parked
  | some _ => if p.tuning.tuned.isSome && p.tuning.tuned == p.servingChannel then .home else .away

/-- The position is recomputed (R28), with the outputs re-judged (R39). HOME or PARKED clears the tune fault mark (R37);
leaving HOME discards a serving burst in flight (R44). -/
def Part.recomputePosition (p : Part) : Part :=
  let was := p.tuning.position
  let now := p.positionNow
  let p := ({ p with tuning.position := now, tuning.fault := p.tuning.fault && now == .away } : Part).driveOutputs
  if was == .home && now != .home then p.discardBurst else p

/-- A tune operation starts: attempt 1, the tuned channel absent, the shift of a fresh word begun (R26, R27, R29). -/
def Part.startOp (owner : Owner) (req : TuneReq) (p : Part) : Part :=
  let word := tuningWord p.params.synPrefix req.channel
  let op : TuneOp :=
    { channel := req.channel, kind := req.kind, attempt := 1, owner := owner, phase := .shifting,
      word := word, lockWait := none, settle := none, atLatch := .proceed }
  ({ p with
    tuning.op := some op
    tuning.tuned := none
    tuning.holder := some owner
    tuning.pins := firstLevels word } : Part).recomputePosition

/-- A request put in its client's waiting place, replacing one that stands there (R34). -/
def Part.putWaiting (owner : Owner) (req : TuneReq) (p : Part) : Part :=
  match owner with
  | .scheduler => { p with tuning.waitSched := some req }
  | .affiliation => { p with tuning.waitAff := some req }
  | .engine => p

/-- A client's tune request (R33, R35). During the shift of the client's own operation the withdrawal and the new
request take effect at the latch. DESIGN CHOICE (log entry 37): where a release already waits for that latch, the new
request goes to the client's waiting place (R34), so it is served behind the CONTINUE retry and, for the scan scheduler,
behind the affiliation controller. -/
def Part.requestTune (owner : Owner) (req : TuneReq) (p : Part) : Part :=
  match p.tuning.holder with
  | none => p.startOp owner req
  | some h =>
    if h = owner then
      match p.tuning.op with
      | some op =>
        if op.phase = .shifting then
          if op.atLatch = .release then p.putWaiting owner req
          else { p with tuning.op := some { op with atLatch := .restart req } }
        else p.startOp owner req
      | none => p.startOp owner req
    else p.putWaiting owner req

/-- The channel of a tune home: the serving record's at the time of the request (R36). -/
def Part.requestReturn (owner : Owner) (p : Part) : Part :=
  match p.servingChannel with
  | some c => p.requestTune owner ⟨c, .ret⟩
  | none => p

/-- The receiver is free: first the CONTINUE retry, then the affiliation controller's waiting request, then the scan
scheduler's (R34, R38). -/
def Part.serveClients (p : Part) : Part :=
  match p.tuning.waitAff, p.tuning.waitSched with
  | some req, _ => ({ p with tuning.waitAff := none } : Part).startOp .affiliation req
  | none, some req => ({ p with tuning.waitSched := none } : Part).startOp .scheduler req
  | none, none => p

/-- The retry of R38 with the receiver free: a RETURN operation for the engine, or READY at once when the mark is
clear. -/
def Part.makeRetry (p : Part) : Part :=
  match p.tuning.fault, p.servingChannel with
  | true, some c => p.startOp .engine ⟨c, .ret⟩
  | _, _ => p.engineReady

/-- The receiver becomes free and the next piece of work is taken (R34). A retry answered with no tune leaves the
receiver free for the waiting places. -/
def Part.freeReceiver (p : Part) : Part :=
  let p := { p with tuning.holder := none, tuning.op := none }
  if p.tuning.retryWaiting then
    let p := ({ p with tuning.retryWaiting := false } : Part).makeRetry
    if p.tuning.holder.isSome then p else p.serveClients
  else p.serveClients

/-- Emptying a client's waiting place (R34). -/
def Part.clearWaiting (owner : Owner) (p : Part) : Part :=
  match owner with
  | .scheduler => { p with tuning.waitSched := none }
  | .affiliation => { p with tuning.waitAff := none }
  | .engine => p

/-- The holder releases the receiver. A release while its own operation runs withdraws it first, at the latch when the
shift is under way (R33, R35). A client that does not hold the receiver only gives up its waiting place. -/
def Part.releaseReceiver (owner : Owner) (p : Part) : Part :=
  let p := p.clearWaiting owner
  if p.tuning.holder = some owner then
    match p.tuning.op with
    | some op =>
      if op.phase = .shifting then { p with tuning.op := some { op with atLatch := .release } }
      else p.freeReceiver
    | none => p.freeReceiver
  else p

/-- The retry asked for by CONTINUE (R38). DEDUCED (log entry 18): a receiver held for a retry already running needs no
second one. -/
def Part.askRetry (p : Part) : Part :=
  if p.tuning.fault then
    match p.tuning.holder with
    | none => p.makeRetry
    | some .engine => p
    | some _ => { p with tuning.retryWaiting := true }
  else p.engineReady

/-- The word has been shifted and latched: the attempt goes on into the blanking with the lock wait timer running, or a withdrawal taken during the
shift takes effect (R26, R29, R35). -/
def Part.latch (op : TuneOp) (p : Part) : Part :=
  let p := p.shiftOut op.word
  match op.atLatch with
  | .proceed =>
    { p with tuning.op := some { op with phase := .blanking, lockWait := some p.params.lockWaitMs } }
  | .restart req => p.startOp op.owner req
  | .release => p.freeReceiver

/-- The shift of a fresh word begins for attempt 2 of a RETURN operation (R26, R36, R40). -/
def Part.secondAttempt (op : TuneOp) (p : Part) : Part :=
  let word := tuningWord p.params.synPrefix op.channel
  let again := { op with attempt := 2, phase := .shifting, word := word, lockWait := none }
  { p with tuning.op := some again, tuning.pins := firstLevels word }

/-- The operation ends READY: IDLE, the tuned channel is the operation's, the position is recomputed (R31). -/
def Part.endReady (op : TuneOp) (p : Part) : Part :=
  ({ p with tuning.op := none, tuning.tuned := some op.channel } : Part).recomputePosition

/-- The operation ends with a lock failure: IDLE, the tuned channel stays absent (R32). -/
def Part.endFailed (p : Part) : Part :=
  ({ p with tuning.op := none } : Part).recomputePosition

/-- The tune fault mark is set (R37). DEDUCED (log entry 19): with the position PARKED, which clears the mark by any
cause, it stays clear. -/
def Part.markFault (p : Part) : Part :=
  { p with tuning.fault := p.tuning.position == .away }

end Sys2Proof.Machine
end

