-- ==== Sys2Proof/Machine/Supervision.lean ====
section
/-! DEFINITION. The supervision unit (chapter 6), but for the answer to LOST, which is the engine's. -/

namespace Sys2Proof.Machine

/-- The interval of a class (R102). -/
def intervalMs (cls : Nat) : Nat := 250 * 2 ^ cls

/-- A HOME gap is in flight: one that is not a HUNT gap. -/
def Part.homeGap (p : Part) : Bool :=
  match p.sched.gap with
  | some g => g.kind != .hunt
  | none => false

/-- PTT noted and gap noted as they are set afresh at a start of the interval timer (R104). -/
def Part.freshMarks (p : Part) : Part :=
  { p with sup.pttNoted := p.active .ptt, sup.gapNoted := p.homeGap }

/-- The interval timer starts from the full period of the class, and the marks are set afresh (R102, R104). -/
def Part.startInterval (p : Part) : Part :=
  ({ p with sup.timer := some (intervalMs (p.sup.cls.getD 0)) } : Part).freshMarks

/-- An accepted serving beacon while ACTIVE (R103). -/
def Part.supBeacon (site cls : Nat) (p : Part) : Part :=
  if p.sup.active then
    let was := p.sup.state
    let p := ({ p with
      sup.cls := some cls
      sup.fine := p.params.fadeCount
      sup.coarse := p.params.lostCount
      sup.excuse := false
      sup.state := .healthy } : Part).startInterval
    if was = .healthy then p else p.queueNotice (.servingState site .healthy)
  else p

/-- Suspension: the timer stops, everything else is kept (R111). -/
def Part.suspend (p : Part) : Part := { p with sup.active := false, sup.timer := none }

/-- Resume with the kept state; a full interval begins unless the kept state is LOST (R112). -/
def Part.resume (p : Part) : Part :=
  let p := { p with sup.active := true }
  if p.sup.state = .lost then p.freshMarks else p.startInterval

/-- Restart on the new serving site (R114). -/
def Part.supRestart (cls : Option Nat) (p : Part) : Part :=
  ({ p with
    sup.active := true
    sup.state := .healthy
    sup.fine := p.params.fadeCount
    sup.coarse := p.params.lostCount
    sup.excuse := false
    sup.cls := cls } : Part).startInterval

/-- PTT becoming active is noted while the timer runs (R104). -/
def Part.notePtt (p : Part) : Part :=
  if p.sup.timer.isSome then { p with sup.pttNoted := true } else p

/-- The begin of a HOME gap is noted while the timer runs (R104). -/
def Part.noteGap (p : Part) : Part :=
  if p.sup.timer.isSome then { p with sup.gapNoted := true } else p

/-- The coarse counter falls by one; at 0 the state is LOST, the timer stops and SERVING_STATE is queued (R108). -/
def Part.countCoarse (site : Nat) (p : Part) : Part :=
  let p := { p with sup.coarse := p.sup.coarse - 1 }
  if p.sup.coarse = 0 then
    ({ p with sup.state := .lost, sup.timer := none } : Part).queueNotice (.servingState site .lost)
  else p

/-- A counted interval in HEALTHY (R106) and in FADING by SUPER_MODE (R107). -/
def Part.countInterval (site : Nat) (p : Part) : Part :=
  match p.sup.state with
  | .healthy =>
    let p := { p with sup.fine := p.sup.fine - 1 }
    if p.sup.fine = 0 then
      ({ p with sup.state := .fading, sup.fine := p.params.fadeCount } : Part).queueNotice (.servingState site .fading)
    else p
  | .fading =>
    match p.params.superMode with
    | .direct => p.countCoarse site
    | .chained =>
      let p := { p with sup.fine := p.sup.fine - 1 }
      if p.sup.fine = 0 then ({ p with sup.fine := p.params.fadeCount } : Part).countCoarse site else p
  | .lost => p

/-- The judgement of the interval just ended, in R105's order. -/
def Part.judgeInterval (site : Nat) (p : Part) : Part :=
  if p.sup.pttNoted then p
  else if p.sup.gapNoted && !p.sup.excuse then { p with sup.excuse := true }
  else ({ p with sup.excuse := false } : Part).countInterval site

/-- A lowered FADE_COUNT lowers a fine counter above it (R110). -/
def Part.reduceFine (p : Part) : Part := { p with sup.fine := min p.sup.fine p.params.fadeCount }

/-- A lowered LOST_COUNT lowers a coarse counter above it (R110). -/
def Part.reduceCoarse (p : Part) : Part := { p with sup.coarse := min p.sup.coarse p.params.lostCount }

end Sys2Proof.Machine
end

