-- ==== Sys2Proof/Machine/Scheduler.lean ====
section
/-! DEFINITION. The scan scheduler (chapter 3): permission, the searches, the start of a gap, and its early end. What
ends a gap and reports it to the affiliation controller stands in Machine/Measure.lean. -/

namespace Sys2Proof.Machine

/-- Positions taken upward from a pointer, position 23 followed by position 0 (R48). -/
def fromPointer (ptr : Nat) (positions : List Nat) : List Nat :=
  positions.filter (fun i => decide (ptr ≤ i)) ++ positions.filter (fun i => decide (i < ptr))

/-- The record at a position when it may be visited in a HOME round (R48, and R47 with an empty visited list). -/
def Part.visitFit (p : Part) (visited : List Nat) (position : Nat) : Option (Nat × SiteRecord) :=
  match p.slotAt position with
  | some r =>
    if p.aff.serving != some r.site && !p.coChannel r && !r.blocked && !visited.contains position then
      some (position, r)
    else none
  | none => none

/-- The pointer search (R48). -/
def Part.pointerSearch (p : Part) (visited : List Nat) : Option (Nat × SiteRecord) :=
  (fromPointer p.sched.visitPtr (List.range 24)).findSome? (p.visitFit visited)

/-- The pending candidate's record when it is still fit to visit (R47). -/
def Part.pendingVisit (p : Part) : Option (Nat × SiteRecord) :=
  match p.engine.cand with
  | some c => (p.find c.site).bind (fun x => p.visitFit [] x.1)
  | none => none

/-- The record a HOME gap visits, and whether it comes from the pending candidate: the first gap of the round takes the
pending candidate when it is fit (R47), every other one the pointer search. -/
def Part.chooseVisit (p : Part) (w : RoundWork) : Option ((Nat × SiteRecord) × Bool) :=
  match w.visited.isEmpty, p.pendingVisit with
  | true, some x => some (x, true)
  | _, _ => (p.pointerSearch w.visited).map (fun x => (x, false))

/-- The permissions of R45, but for the record to visit. They are read as they stand when the gap is considered:
DESIGN CHOICE (log entry 31), also after a gap that PTT or CALL aborted and that ends with both released again. -/
def Part.gapPermitted (p : Part) (w : RoundWork) : Bool :=
  p.tuning.position == .home && !p.active .ptt && !p.active .call && p.aff.tx.isNone &&
    p.aff.machine == .registered && decide (0 < w.gapsLeft) &&
    (!w.visited.isEmpty || p.lines.battery == .normal || p.sched.conserve == 0)

/-- The gap record as a gap begins. -/
def Gap.begin (ps : Params) (x : Nat × SiteRecord) (kind : GapKind) (fromPending inStep : Bool) : Gap where
  position := x.1
  site := x.2.site
  channel := x.2.channel
  kind := kind
  fromPending := fromPending
  phase := .tuneAway
  run := SampleRun.begin ps
  noted := none
  standing := true
  listenTimer := none
  inStep := inStep

/-- A HOME gap starts: short for a confirmed record, long for another (R47); the supervision unit is told (R57); the
conserve countdown is reloaded at the first gap of a round (R46). -/
def Part.startHomeGap (w : RoundWork) (x : Nat × SiteRecord) (fromPending : Bool) (p : Part) : Part :=
  let kind := if x.2.confirm.isSome then GapKind.short else GapKind.long
  let work := { w with gapsLeft := w.gapsLeft - 1, visited := w.visited ++ [x.1] }
  let conserve := if w.visited.isEmpty then p.params.conserveFactor else p.sched.conserve
  ((({ p with
    sched.gap := some (Gap.begin p.params x kind fromPending p.engine.stepFlag)
    sched.work := some work
    sched.conserve := conserve } : Part)).noteGap).requestTune .scheduler ⟨x.2.channel, .away⟩

/-- The scheduler considers the round's next HOME gap, once no burst and no gap is in flight (R42, R45). -/
def Part.considerHomeGap (p : Part) : Part :=
  match p.sched.work with
  | some w =>
    if w.kind == .home && p.sched.burst.isNone && p.sched.gap.isNone then
      let p := p.passFirstGap
      if p.gapPermitted w then
        match p.chooseVisit w with
        | some (x, fromPending) => p.startHomeGap w x fromPending
        | none => p.skipGaps
      else p.skipGaps
    else p
  | none => p

/-- The record at a position when a HUNT gap may visit it (R55). -/
def Part.huntFit (p : Part) (position : Nat) : Option (Nat × SiteRecord) :=
  match p.slotAt position with
  | some r => if r.blocked then none else some (position, r)
  | none => none

/-- The permissions of a HUNT gap, but for the record to visit (R55). -/
def Part.huntPermitted (p : Part) : Bool :=
  p.tuning.position == .parked && !p.active .ptt && p.aff.tx.isNone && p.aff.machine == .none

/-- The to-visit list of a STEP round without the positions a search has looked at: those before the found one, and the
found one (R55). -/
def lookedAway (order : List Nat) (found : Nat) (toVisit : List Nat) : List Nat :=
  let before := order.takeWhile (fun i => i != found)
  toVisit.filter (fun i => i != found && !before.contains i)

/-- The scheduler considers the next HUNT gap of the chain, once no gap is in flight (R55). -/
def Part.considerHunt (p : Part) : Part :=
  match p.sched.work with
  | some w =>
    if w.kind == .hunt && p.sched.gap.isNone then
      if p.huntPermitted then
        let order := fromPointer p.sched.huntPtr (w.toVisit.getD (List.range 24))
        match order.findSome? p.huntFit with
        | some x =>
          let work := { w with toVisit := w.toVisit.map (lookedAway order x.1) }
          ({ p with
            sched.gap := some (Gap.begin p.params x .hunt false p.engine.stepFlag), sched.work := some work } : Part).requestTune .scheduler ⟨x.2.channel, .away⟩
        | none => p.skipGaps
      else p.skipGaps
    else p
  | none => p

/-- The visit pointer or the hunt pointer moves past the visited position; a visit to the pending candidate moves
neither (R47, R48, R56). -/
def Part.movePointer (g : Gap) (p : Part) : Part :=
  let next := (g.position + 1) % 24
  if g.kind = .hunt then { p with sched.huntPtr := next }
  else if g.fromPending then p
  else { p with sched.visitPtr := next }

/-- The gap goes to TUNE_HOME: what it held is done with, and the RETURN tune is requested (R49, R53). -/
def Part.gapTuneHome (g : Gap) (p : Part) : Part :=
  let run := { g.run with taken := 0, sum := 0, phase := .complete }
  let home : Gap := { g with phase := .tuneHome, run := run, noted := none, listenTimer := none }
  ({ p with sched.gap := some home } : Part).requestReturn .scheduler

/-- A HOME gap is aborted according to its phase; a gap in TUNE_HOME goes on (R53). -/
def Part.abortHomeGap (p : Part) : Part :=
  match p.sched.gap with
  | some g =>
    if g.kind = .hunt || g.phase = .tuneHome then p
    else p.stopRun.gapTuneHome g
  | none => p

/-- A HUNT gap is aborted by PTT: it ends with the receiver released and the hunt pointer unchanged, and the next gap of
the chain is considered (R56). DESIGN CHOICE (log entry 40): during the shift of its tune away the receiver becomes free at
the latch (R35), and the gap has ended, for R57 and R159 too, at the abort. -/
def Part.abortHuntGap (p : Part) : Part :=
  match p.sched.gap with
  | some g =>
    if g.kind = .hunt then
      (({ p.stopRun with sched.gap := none } : Part).releaseReceiver .scheduler).considerHunt
    else p
  | none => p

/-- A HOME gap is ended at once with no tune home, as affiliation goes to NONE (R54), though a shift of its tune has the
receiver free at the latch alone (log entry 40). No further gap of the round can start. -/
def Part.endHomeGapNow (p : Part) : Part :=
  if p.homeGap then
    (({ p.stopRun with sched.gap := none } : Part).releaseReceiver .scheduler).skipGaps
  else p

/-- PTT becoming active at the scheduler (R44, R53, R56). -/
def Part.schedPtt (p : Part) : Part := p.discardBurst.abortHomeGap.abortHuntGap

/-- CALL becoming active at the scheduler: a HOME gap only (R53, R56). -/
def Part.schedCall (p : Part) : Part := p.abortHomeGap

/-- A failed visit's marks on the visited record (R52). -/
def SiteRecord.failVisit (failBar : Nat) (noBeacon : Bool) (r : SiteRecord) : SiteRecord :=
  let r := if noBeacon then { r with confirm := none } else r
  if r.failures + 1 < 3 then { r with failures := r.failures + 1 }
  else { r.setBar .failed failBar with failures := 0 }

/-- A visit fails: the marks, subject to R12 (R52). -/
def Part.visitFailed (g : Gap) (noBeacon : Bool) (p : Part) : Part :=
  if g.standing then p.updateRec g.site (SiteRecord.failVisit p.params.failBar noBeacon) else p

/-- A serving burst begins (R43). -/
def Part.startBurst (site : Nat) (p : Part) : Part :=
  ({ p with sched.burst := some ⟨site, SampleRun.begin p.params, true⟩ } : Part).askRssi

/-- The round's work request (R42): set aside, a hunt round, or a HOME round with its serving burst (R43). A request
that is not current opens no gaps, but its burst is taken (R160). -/
def Part.requestWork (p : Part) : Part :=
  let current := p.engine.working
  if p.sched.burst.isSome || p.homeGap then p.skipGaps
  else
    match p.aff.serving with
    | none =>
      let listed := if p.engine.stepFlag then some ((List.range 24).filter (fun i => (p.huntFit i).isSome)) else none
      let work : RoundWork := { kind := .hunt, gapsLeft := 0, visited := [], toVisit := listed }
      ({ p with sched.work := if current then some work else none } : Part).considerHunt
    | some site =>
      let work : RoundWork := { kind := .home, gapsLeft := p.params.gaps, visited := [], toVisit := none }
      let p := { p with sched.work := if current then some work else none }
      if !p.active .ptt && p.tuning.position == .home then p.startBurst site else p.considerHomeGap

end Sys2Proof.Machine
end

