-- ==== Sys2Proof/Machine/Affiliation.lean ====
section
/-! DEFINITION. The affiliation controller (chapter 7): the transmit request, the begin of a handover, and the radio
going to NONE. -/

namespace Sys2Proof.Machine

/-- The request number after another: one more, 255 followed by 1 (R123). -/
def nextNumber (last : Nat) : Nat := if last < 255 then last + 1 else 1

/-- A transmit request is issued: recorded with its number, TX_WAIT started for TX_WAIT_MS plus the delay, and the
TRANSMIT notice queued (R123). -/
def Part.issueTx (kind : TxKind) (frame : AirFrame) (delay : Nat) (p : Part) : Part :=
  let number := nextNumber p.aff.lastNumber
  ({ p with
    aff.tx := some ⟨kind, frame, delay, number⟩
    aff.txTimer := some (p.params.txWaitMs + delay)
    aff.lastNumber := number } : Part).queueNotice (.transmit number delay frame)

/-- The unit address the frames carry. The identity is present whenever the radio is registered or registering (R118,
R133); without one the field is 0 (log entry 19). -/
def Part.unit (p : Part) : Nat := (p.aff.identity.map Identity.unit).getD 0

def Part.talkGroup (p : Part) : Nat := (p.aff.identity.map Identity.group).getD 0

/-- The REGISTER of a handover is issued, and attempts rises by one (R126). -/
def Part.issueRegister (ctx : Context) (p : Part) : Part :=
  let p := { p with aff.registerDue := false, aff.ctx := some { ctx with attempts := ctx.attempts + 1 } }
  p.issueTx .register
    (.register ctx.target p.unit p.talkGroup (p.aff.serving.getD 0) (p.active .emerg)) 0

/-- The machine enters HO_SEND with a REGISTER due: issued at once, or when an outstanding request ends (R123, R126). -/
def Part.enterSend (ctx : Context) (p : Part) : Part :=
  let p := { p with aff.machine := .hoSend, aff.hoTimer := none, aff.ctx := some ctx }
  if p.aff.tx.isNone then p.issueRegister ctx else { p with aff.registerDue := true }

/-- The DEREGISTER of a sign-off is issued (R123, R137). -/
def Part.issueDeregister (p : Part) : Part :=
  ({ p with aff.deregisterDue := false } : Part).issueTx .deregister
    (.deregister (p.aff.serving.getD 0) p.unit) 0

/-- The machine goes to HO_TUNE: the supervision unit is suspended and the tune to the target requested (R125 step 4). -/
def Part.goTune (ctx : Context) (p : Part) : Part :=
  let p := (({ p with aff.ctx := some { ctx with waiting := false } } : Part).setMachine .hoTune).suspend
  match p.record ctx.target with
  | some r => p.requestTune .affiliation ⟨r.channel, .away⟩
  | none => p

/-- The causes whose handover can go back (section 7.4). -/
def Cause.canReturn : Cause → Bool
  | .better => true
  | .floor => true
  | .fading => true
  | .directed => true
  | .host => true
  | .loss => false
  | .acquire => false

/-- A handover is begun (R125). With a context or signing off it is not begun, and the engine's state stays as it is.
An event's later targets do not come here (R132). `ofRound` is whether R159 counts the handover to a STEP round in
progress: those of its evaluation, of a loss raised while the step flag is set, and of its hunt gaps, but not those
that a site or the host orders. -/
def Part.beginHandover (target : Nat) (cause : Cause) (ofRound : Bool) (p : Part) : Part :=
  if p.aff.ctx.isSome || p.aff.signingOff then p
  else
    let ctx : Context :=
      { target := target, cause := cause, oldServing := p.aff.serving, canReturn := cause.canReturn, attempts := 0,
        cls := none, tried := [], waiting := p.homeGap, inStep := p.engine.stepFlag && ofRound }
    let p := { p with engine.cand := none, aff.ctx := some ctx }
    if ctx.waiting then p.abortHomeGap else p.goTune ctx

/-- The scheduler's report that a gap it was asked to end has ended (R54): the held handover goes on (R125), or the
DEREGISTER is issued (R137). -/
def Part.gapEndedReport (p : Part) : Part :=
  match p.aff.ctx with
  | some ctx => if ctx.waiting then p.goTune ctx else p
  | none => if p.aff.deregisterDue && p.aff.tx.isNone then p.issueDeregister else p

/-- The old serving record becomes ordinary: the other non-serving records on its channel lose their confirmation
(R15). -/
def Part.makeOrdinary (old : Option Nat) (p : Part) : Part :=
  match old.bind p.record with
  | some r => p.unconfirmOthers r.channel r.site
  | none => p

/-- The radio goes to NONE (R132), in the order of its list. -/
def Part.goNone (cause : NoServiceCause) (p : Part) : Part :=
  let old := p.aff.serving
  let p := ({ p with aff.serving := none } : Part).makeOrdinary old
  let p := { p with
    aff.slot := none, aff.sense := none, aff.machine := .none, aff.hoTimer := none, aff.registerDue := false
    engine.cand := none, engine.releaseOwed := false }
  let p := p.recomputePosition.suspend.endHomeGapNow
  let p := ({ p with aff.ctx := none } : Part).releaseReceiver .affiliation
  p.queueNotice (.noService (old.getD 0) cause)

end Sys2Proof.Machine
end

