-- ==== Sys2Proof/Machine/Engine.lean ====
section
/-! DEFINITION. The decision engine (chapter 5): the round update, the evaluation, the quality judgement and loss
selection. -/

namespace Sys2Proof.Machine

/-! ### Loss selection (section 5.4) -/

/-- The records loss selection may choose (R93). -/
def Part.lossFit (p : Part) (tried : List Nat) (r : SiteRecord) : Bool :=
  p.aff.serving != some r.site && r.confirm.isSome && !p.coChannel r && !r.blocked &&
    decide (r.age ≤ p.params.staleLimit) && !tried.contains r.site &&
    (match r.q with
     | some q => decide (p.params.acceptMin ≤ q)
     | none => false)

/-- The choice of loss selection: the highest score, ties to the lower position (R93). -/
def Part.lossChoice (p : Part) (tried : List Nat) : Option (Nat × SiteRecord) :=
  pickMax (scoreKey p.params) (p.occupied.filter (fun x => p.lossFit tried x.2))

/-- The first selection of a loss (R92, R93, R98): none found takes the radio to NONE, but for signing off (R137); a
selection that a watch holds leaves the loss owed. DESIGN CHOICE (log entry 41): a release owed is cleared as the
hand-off passes the select check (R93), and stays cleared where the controller turns the hand-off down because signing off
is set (R125, R97). -/
def Part.selectForLoss (p : Part) : Part :=
  match p.lossChoice [] with
  | none =>
    let p := { p with engine.releaseOwed := false }
    if p.aff.signingOff then p else p.goNone .noTarget
  | some (_, r) =>
    match ({ p with engine.cand := none } : Part).selectCheck r.site .loss with
    | (true, p) => ({ p with engine.releaseOwed := false } : Part).beginHandover r.site .loss true
    | (false, p) => p

/-- A loss raised at the engine: answered at once while working with the machine at rest, otherwise owed to the next
evaluation (R92). -/
def Part.raiseLoss (p : Part) : Part :=
  if p.engine.working && p.aff.machine == .registered && p.aff.ctx.isNone then p.selectForLoss else p

/-- LOST reported by the supervision unit: in FIXED it raises nothing (R90, R92). -/
def Part.reportLost (p : Part) : Part := if p.params.mode = .auto then p.raiseLoss else p

/-- How an event without a further target ends: NO_TARGET when a serving site is cleared, ACQUIRE_FAILED for an acquire
event (R132). -/
def Part.endEvent (ctx : Context) (p : Part) : Part :=
  p.goNone (if ctx.cause = .acquire then .acquireFailed else .noTarget)

/-- The engine's answer to a failure without return (R94 to R96, R98, R132), with the failed target on the tried list:
the next target, which belongs to a STEP round if the event's first did (R159), or the end of the event. -/
def Part.selectAgain (ctx : Context) (p : Part) : Part :=
  let tried := ctx.tried ++ [ctx.target]
  let p := { p with aff.ctx := some { ctx with tried := tried } }
  if p.engine.working && decide (tried.length < 3) then
    match p.lossChoice tried with
    | none => p.endEvent ctx
    | some (_, r) =>
      match ({ p with engine.cand := none } : Part).selectCheck r.site ctx.cause with
      | (false, p) => p.endEvent ctx
      | (true, p) =>
        p.goTune { ctx with
          target := r.site, attempts := 0, cls := none, tried := tried }
  else p.endEvent ctx

/-! ### The quality judgement (section 5.2) -/

/-- The record tests of eligibility (R84), which the candidate count of a STATUS REPORT takes too (R148). -/
def Part.candidateFit (p : Part) (r : SiteRecord) : Bool :=
  p.aff.serving != some r.site && r.confirm.isSome && !p.coChannel r && r.bar.isNone && r.level.isSome &&
    decide (r.age ≤ p.params.staleLimit)

/-- The best record: none in FIXED or during holdoff, otherwise the highest score, ties to the lower position (R84,
R85). -/
def Part.best (p : Part) : Option (Nat × SiteRecord) :=
  if p.params.mode = .auto && p.engine.holdoff = 0 then
    pickMax (scoreKey p.params) (p.occupied.filter (fun x => p.candidateFit x.2))
  else none

/-- The first condition that holds, in the order FADING, FLOOR, BETTER (R86). -/
def Part.condition (p : Part) (servingScore servingQ bestScore : Nat) : Option Cause :=
  if p.sup.state = .fading && decide (servingScore < bestScore) then some .fading
  else if decide (servingQ < p.params.floor) && decide (servingScore < bestScore) then some .floor
  else if decide (servingScore + p.effectiveHyst ≤ bestScore) then some .better
  else none

/-- The pending candidate after a condition has held for a site (R87). -/
def nextCandidate (old : Option Candidate) (site : Nat) (cause : Cause) : Candidate :=
  match old with
  | some c => if c.site = site then ⟨site, min 15 (c.count + 1), cause⟩ else ⟨site, 1, cause⟩
  | none => ⟨site, 1, cause⟩

/-- A hand-off of the quality judgement: the pending candidate is cleared, then the select check, then the handover
(R88, R97). -/
def Part.handOff (site : Nat) (cause : Cause) (p : Part) : Part :=
  match ({ p with engine.cand := none } : Part).selectCheck site cause with
  | (true, p) => p.beginHandover site cause true
  | (false, p) => p

/-- The quality judgement against a serving record with its level (R83 to R88). -/
def Part.judge (serving : SiteRecord) (l : Level) (p : Part) : Part :=
  match p.best with
  | none => { p with engine.cand := none }
  | some (_, b) =>
    match p.condition (scoreOf p.params serving l) l.q (scoreKey p.params b) with
    | none => { p with engine.cand := none }
    | some cause =>
      let c := nextCandidate p.engine.cand b.site cause
      if p.effectiveDwell cause ≤ c.count then p.handOff b.site cause
      else { p with engine.cand := some c }

/-- A loss is owed: a RELEASE not yet answered, or LOST in AUTO (R82). -/
def Part.lossOwed (p : Part) : Bool :=
  p.engine.releaseOwed || (p.sup.state == .lost && p.params.mode == .auto)

/-- The evaluation of a round (R82). -/
def Part.evaluate (p : Part) : Part :=
  match p.aff.serving with
  | none => p
  | some s =>
    if p.aff.ctx.isSome || p.aff.machine != .registered then p
    else if p.lossOwed then p.selectForLoss
    else
      match p.record s with
      | some r =>
        match r.level with
        | some l => p.judge r l
        | none => p
      | none => p

/-- The round update: the counters of the table and the holdoff counter (R78 to R81). -/
def Part.countRound (p : Part) : Part :=
  let p := p.countTable
  { p with engine.holdoff := p.engine.holdoff - 1 }

/-- One round: the counters, the evaluation, the scheduler's work, in this order (R77). Where the evaluation itself takes
the radio to NONE, the hunt starts at the next round (R93, R132), and this round has no work (log entry 7). -/
def Part.round (p : Part) : Part :=
  let q := p.countRound.evaluate
  if p.aff.serving.isSome && q.aff.serving.isNone then q.skipGaps else q.requestWork

/-- A STEP round ends when its work has ended and no handover begun within it is in flight (R159). It is judged at the
end of every step of the part, and before a tune fault freezes the engine (R37, log entry 10). -/
def Part.endStepRound (p : Part) : Part :=
  if p.engine.stepFlag && p.sched.work.isNone && !((p.aff.ctx.map Context.inStep).getD false) then
    ({ p with engine.stepFlag := false, engine.state := .halted } : Part).engineNotice .stepDone none
  else p

end Sys2Proof.Machine
end

