-- ==== Sys2Proof/Machine/Handover.lean ====
section
/-! DEFINITION. How a handover ends (section 7.5), the end of a transmit request (R124), and the air frames taken by
the affiliation controller (chapters 7 and 8). -/

namespace Sys2Proof.Machine

/-! ### Failure and success -/

/-- The mark a failure leaves on its target (R129). -/
def SiteRecord.failTarget (reason : FailReason) (failBar retry : Nat) (r : SiteRecord) : SiteRecord :=
  match reason with
  | .lock => r.setBar .failed failBar
  | .noBeacon => { r.setBar .failed failBar with confirm := none }
  | .notAccepting => r.setBar .refused failBar
  | .txNotSent => r.setBar .failed failBar
  | .refused => r.setBar .refused (if retry = 0 then failBar else retry)
  | .noGrant => r.setBar .failed failBar
  | .abortedPtt => r.setBar .failed failBar

/-- A handover fails (R129), and goes on by R130 with can-return set or by R132 without. `refuse` and `retry` are those
of a REFUSE. -/
def Part.failHandover (ctx : Context) (reason : FailReason) (refuse : Option RefuseReason) (retry : Nat)
    (p : Part) : Part :=
  let p := ({ p with aff.hoTimer := none, aff.registerDue := false } : Part).queueNotice
    (.handoverFailed ctx.target ctx.cause reason refuse)
  let p := p.updateRec ctx.target (SiteRecord.failTarget reason p.params.failBar retry)
  if ctx.canReturn then ({ p with aff.machine := .hoReturn } : Part).requestReturn .affiliation
  else p.selectAgain ctx

/-- The bar on the old serving record at a success: HOLD for DIRECTED, RETURN otherwise; a REFUSED or FAILED bar it
carries stands (R128). -/
def SiteRecord.leaveServing (cause : Cause) (ps : Params) (r : SiteRecord) : SiteRecord :=
  if r.blocked then r
  else if cause = .directed then r.setBar .hold ps.directHold
  else r.setBar .ret ps.returnBar

/-- The old serving record after a success: ordinary, and barred (R15, R128). -/
def Part.leaveOld (old : Option Nat) (cause : Cause) (p : Part) : Part :=
  match old with
  | some s => (p.makeOrdinary old).updateRec s (SiteRecord.leaveServing cause p.params)
  | none => p

/-- A handover succeeds with the slot and sense of its GRANT (R128), in the order of the rule; the engine sets the
holdoff counter and clears a release owed (R91). -/
def Part.succeedHandover (ctx : Context) (slot : Option Nat) (sense : Sense) (p : Part) : Part :=
  let old := p.aff.serving
  let p := { p with
    aff.hoTimer := none, aff.registerDue := false, aff.serving := some ctx.target, aff.slot := slot,
    aff.sense := some sense }
  let p := (p.leaveOld old ctx.cause).recomputePosition
  let p := (p.setMachine .registered).supRestart ctx.cls
  let p := ({ p with aff.ctx := none } : Part).releaseReceiver .affiliation
  let p := p.queueNotice (.roamed (old.getD 0) ctx.target ctx.cause)
  { p with engine.holdoff := p.params.holdoff, engine.releaseOwed := false }

/-- The tune in HO_RETURN has ended, READY or as a tune fault: back to REGISTERED (R112, R130). -/
def Part.endReturn (p : Part) : Part :=
  let p := (p.setMachine .registered).resume
  ({ p with aff.ctx := none } : Part).releaseReceiver .affiliation

/-- PTT becoming active at the controller (R131). -/
def Part.affPtt (p : Part) : Part :=
  match p.aff.ctx with
  | some ctx =>
    if ctx.canReturn && (p.aff.machine == .hoTune || p.aff.machine == .hoListen) then
      p.failHandover ctx .abortedPtt none 0
    else p
  | none => p

/-! ### The end of a transmit request (R124) -/

/-- A REGISTER or DEREGISTER that waited for the request to end is issued (R123, R124). -/
def Part.issueWaiting (p : Part) : Part :=
  if p.aff.tx.isSome then p
  else if p.aff.registerDue then
    match p.aff.ctx with
    | some ctx => p.issueRegister ctx
    | none => p
  else if p.aff.deregisterDue && !p.homeGap then p.issueDeregister
  else p

/-- A REGISTER ends: the handover goes on only if the machine is still in HO_SEND for it, that is with no other REGISTER
due (R124, R126). -/
def Part.registerEnded (outcome : TxOutcome) (p : Part) : Part :=
  match p.aff.ctx with
  | some ctx =>
    if p.aff.machine == .hoSend && !p.aff.registerDue then
      match outcome with
      | .sent => { p with aff.machine := .hoGrant, aff.hoTimer := some ⟨.grantWait, p.params.grantWaitMs⟩ }
      | .notSent => p.failHandover ctx .txNotSent none 0
    else p
  | none => p

/-- The service request flag a frame carries (R142). -/
def AirFrame.carriesRequest : AirFrame → Bool
  | .statusReport _ _ flags _ _ => flags.request
  | _ => false

/-- A STATUS REPORT that carried the flag and ends SENT with EMERG inactive clears the mark (R142, R149). -/
def Part.reportEnded (frame : AirFrame) (outcome : TxOutcome) (p : Part) : Part :=
  if outcome = .sent && frame.carriesRequest && !p.active .emerg then { p with aff.request := false } else p

/-- The outstanding request ends with an outcome and is handed to the owner of its kind (R124). -/
def Part.endTx (tx : TxReq) (outcome : TxOutcome) (p : Part) : Part :=
  let p := { p with aff.tx := none, aff.txTimer := none }
  let p :=
    match tx.kind with
    | .register => p.registerEnded outcome
    | .deregister => ({ p with aff.signingOff := false } : Part).goNone .signedOff
    | .rollAnswer => p
    | .statusReport => p.reportEnded tx.frame outcome
  p.issueWaiting

/-! ### Answers to the serving site (chapter 8) -/

/-- Whether a roll call is answered, by slot, sense and mark (R144). -/
def rollAnswerDue (sense : Option Sense) (request : Bool) : Bool :=
  match sense with
  | some .present => !request
  | some .need => request
  | none => false

/-- A taken ROLL CALL: the answer is issued with the slot's delay, or dropped while a request is outstanding (R144,
R145, R150). -/
def Part.rollCall (site : Nat) (p : Part) : Part :=
  match p.aff.slot with
  | some slot =>
    if rollAnswerDue p.aff.sense p.aff.request && p.aff.tx.isNone then
      p.issueTx .rollAnswer (.rollAnswer site p.unit (some slot)) (slot * p.params.slotMs)
    else p
  | none => p

/-- The fields of a STATUS REPORT as the part stands (R148). -/
def Part.reportFrame (site : Nat) (p : Part) : AirFrame :=
  let flags : ReportFlags :=
    { request := p.aff.request, emergency := p.active .emerg, batteryLow := p.lines.battery == .low,
      fading := p.sup.state != .healthy }
  .statusReport site p.unit flags ((p.record site).bind SiteRecord.q)
    ((p.occupied.filter (fun x => p.candidateFit x.2)).length)

/-- A taken STATUS QUERY (R147, R150). -/
def Part.statusQuery (site : Nat) (p : Part) : Part :=
  if p.aff.tx.isNone then p.issueTx .statusReport (p.reportFrame site) 0 else p

/-! ### Orders of the serving site -/

def Part.refuseDirect (target : Nat) (reason : DirectReason) (p : Part) : Part :=
  p.queueNotice (.directRefused target reason)

/-- A DIRECT taken under R122, checked in R134's order. -/
def Part.direct (target channel : Nat) (p : Part) : Part :=
  if p.aff.ctx.isSome || p.aff.signingOff then p.refuseDirect target .busy
  else if p.params.mode = .fixed then p.refuseDirect target .modeFixed
  else if p.aff.serving = some target then p
  else
    match p.record target with
    | none =>
      match p.learn target channel .direct [] with
      | some p => p.refuseDirect target .unconfirmed
      | none => p.refuseDirect target .unknown
    | some r =>
      if p.coChannel r || r.confirm.isNone then p.refuseDirect target .unconfirmed
      else if r.blocked then p.refuseDirect target .barred
      else if !((r.q.map (fun q => decide (p.params.acceptMin ≤ q))).getD false) then p.refuseDirect target .weak
      else
        match p.selectCheck target .directed with
        | (true, p) => p.beginHandover target .directed false
        | (false, p) => p

/-- A RELEASE taken under R122 (R136). -/
def Part.release (site retry : Nat) (p : Part) : Part :=
  let rounds := if retry = 0 then p.params.failBar else retry
  let p := (p.updateRec site (SiteRecord.setBar .refused rounds)).queueNotice (.released site rounds)
  ({ p with engine.releaseOwed := true } : Part).raiseLoss

end Sys2Proof.Machine
end

