-- ==== Sys2Proof/Machine/Measure.lean ====
section
/-! DEFINITION. The course of a measurement: samples, crediting, the end of bursts and gaps, the outcomes of the
scheduler's tunes, and the ACQUIRE a hunt gap offers (chapters 3 and 7). -/

namespace Sys2Proof.Machine

/-- An ACQUIRE offered by the scheduler (R133), from a gap that the STEP round in progress started or not (R159). -/
def Part.offerAcquire (site : Nat) (inStep : Bool) (p : Part) : Part :=
  match p.record site with
  | some r =>
    if p.aff.machine == .none && p.aff.identity.isSome && r.confirm.isSome && !r.blocked then
      match p.selectCheck site .acquire with
      | (true, p) => p.beginHandover site .acquire inStep
      | (false, p) => p
    else p
  | none => p

/-- A HOME gap has ended: the receiver is released, the neighbours are told, and the round's next gap is considered
(R57; the order by log entry 9). -/
def Part.endHomeGap (p : Part) : Part :=
  ((({ p with sched.gap := none } : Part).releaseReceiver .scheduler).gapEndedReport).considerHomeGap

/-- A HUNT gap ends, not by an abort: pointer, receiver, the ACQUIRE it may offer, and the next gap of the chain
(R56). -/
def Part.endHuntGap (g : Gap) (offer : Option Nat) (p : Part) : Part :=
  let p := ((({ p with sched.gap := none } : Part).movePointer g).releaseReceiver .scheduler)
  let p := match offer with
    | some site => p.offerAcquire site g.inStep
    | none => p
  p.considerHunt

/-- Whose record the mean of a gap is credited to, and whether that record still stands (R12, R51). DESIGN CHOICE (log
entry 38): a record that a noted beacon names is judged by the time since the noting alone, also where it is the visited
record, which left its slot or changed channel between the gap's beginning and the noting. -/
def Gap.creditTo (g : Gap) : Nat × Bool :=
  match g.noted with
  | some n => (n.site, n.standing)
  | none => (g.site, g.standing)

/-- A gap reaches crediting (R51, R56). -/
def Part.creditGap (g : Gap) (p : Part) : Part :=
  let (site, standing) := g.creditTo
  let mean := g.run.mean
  let p := if standing then p.credit site mean else p
  if g.kind = .hunt then
    p.endHuntGap g (if standing && decide (p.params.acceptMin ≤ mean) then some site else none)
  else (p.movePointer g).gapTuneHome g

/-- The listen of a LONG or HUNT gap ended with no beacon noted, or its tune away failed (R50, R52). -/
def Part.failGap (g : Gap) (noBeacon : Bool) (p : Part) : Part :=
  let p := p.stopRun.visitFailed g noBeacon
  if g.kind = .hunt then p.endHuntGap g none else (p.movePointer g).gapTuneHome g

/-- All samples of a gap are taken: a short gap, or one with a beacon noted, is credited; another one listens (R49 to
R51). -/
def Part.gapSampled (g : Gap) (p : Part) : Part :=
  if g.kind = .short || g.noted.isSome then p.creditGap g
  else { p with sched.gap := some { g with phase := .listen } }

/-- A serving burst has its last sample: the mean is credited, subject to R12, and the round goes on to its gaps
(R42, R43). -/
def Part.endBurst (b : Burst) (p : Part) : Part :=
  let p := { p with sched.burst := none }
  (if b.standing then p.credit b.site b.run.mean else p).considerHomeGap

/-- A sample is added to its run (R60, R62). -/
def SampleRun.add (q : Nat) (run : SampleRun) : SampleRun :=
  { run with
    taken := run.taken + 1
    sum := run.sum + q
    phase := if run.count ≤ run.taken + 1 then .complete else .spacing }

/-- The burst or gap whose run is complete goes on. -/
def Part.runComplete (p : Part) : Part :=
  match p.sched.burst with
  | some b => p.endBurst b
  | none =>
    match p.sched.gap with
    | some g => p.gapSampled g
    | none => p

/-- An RSSI conversion gives its code (R60 to R62); the last sample releases the converter (R176). -/
def Part.takeSample (code : Byte) (p : Part) : Part :=
  let p := p.mapRun (SampleRun.add (levelOfCode p.params code))
  match p.run with
  | some run => if run.phase = .complete then p.releaseConverter.runComplete else p
  | none => p

/-- A beacon accepted in a gap's SAMPLE or LISTEN is noted when its site has a record on the gap's channel; in LISTEN
it brings the crediting (R49, R50). -/
def Part.noteBeacon (g : Gap) (site : Nat) (p : Part) : Part :=
  if (p.record site).map SiteRecord.channel = some g.channel then
    let g := { g with noted := some ⟨site, true⟩ }
    if g.phase = .listen then p.creditGap g else { p with sched.gap := some g }
  else p

/-- The scheduler's tune ended READY (R49, R50, R57). -/
def Part.schedReady (p : Part) : Part :=
  match p.sched.gap with
  | some g =>
    if g.phase = .tuneAway then
      let timer := if g.kind = .short then none else some p.params.listenMs
      let sampling : Gap := { g with phase := .sample, run := SampleRun.begin p.params, listenTimer := timer }
      ({ p with sched.gap := some sampling } : Part).askRssi
    else p.endHomeGap
  | none => p

/-- The scheduler's tune ended LOCK_FAIL: a failed visit on the way out, the end of the gap on the way home (R49,
R52). -/
def Part.schedFailed (p : Part) : Part :=
  match p.sched.gap with
  | some g => if g.phase = .tuneAway then p.failGap g false else p.endHomeGap
  | none => p

end Sys2Proof.Machine
end

