-- ==== Sys2Proof/Machine/Air.lean ====
section
/-! DEFINITION. The interpretation of a well-formed air frame (R119 to R122). -/

namespace Sys2Proof.Machine

/-- The gap in flight when it is in SAMPLE or LISTEN. -/
def Part.openGap (p : Part) : Option Gap :=
  match p.sched.gap with
  | some g => if g.phase = .sample || g.phase = .listen then some g else none
  | none => none

/-- The table writes of an accepted beacon, the same in every state (R120). -/
def Part.beaconWrites (b : Beacon) (p : Part) : Part :=
  match p.record b.site with
  | some r => if r.channel = b.channel then p.confirmFromBeacon r b.load else p
  | none =>
    match p.openGap with
    | some g =>
      if g.kind = .short then p
      else
        match p.learn b.site b.channel .heard [] with
        | some p => p.confirmFromBeacon (SiteRecord.fresh b.site b.channel .learned 0) b.load
        | none => p
    | none => p

/-- The target's beacon in HO_LISTEN (R126). -/
def Part.targetBeacon (ctx : Context) (b : Beacon) (p : Part) : Part :=
  if b.accepting then p.enterSend { ctx with cls := some b.cls } else p.failHandover ctx .notAccepting none 0

/-- Where an accepted beacon is handed on to, by the state it finds (R121). -/
def Part.handOnBeacon (b : Beacon) (p : Part) : Part :=
  if p.aff.machine = .registered && p.tuning.position = .home then
    if p.aff.serving = some b.site then (p.supBeacon b.site b.cls).learnNeighbours b.neighbours else p
  else
    match p.openGap, p.aff.ctx with
    | some g, _ => p.noteBeacon g b.site
    | none, some ctx => if p.aff.machine = .hoListen && ctx.target = b.site then p.targetBeacon ctx b else p
    | none, none => p

/-- A BEACON: stale unless its own channel is the tuned channel (R120), then the writes, then the hand-on. DESIGN CHOICE
(log entry 42): a target's beacon taken after the BEACON_WAIT expiry (R126) or the PTT abort (R131) in HO_LISTEN is judged
by R120 as any other; the tune that has started by then has made the tuned channel absent (R27), so it is stale and
confirms nothing. -/
def Part.takeBeacon (b : Beacon) (p : Part) : Part :=
  if p.tuning.tuned = some b.channel then (p.beaconWrites b).handOnBeacon b else p

/-- A unit field equals the unit of the identity (R119). -/
def Part.ownUnit (p : Part) (unit : Nat) : Bool := p.aff.identity.map Identity.unit == some unit

/-- A DIRECT is addressed to this radio (R119). -/
def Part.addressed (p : Part) (kind : AddressKind) (address : Nat) : Bool :=
  match kind with
  | .unit => p.ownUnit address
  | .group => p.aff.identity.map Identity.group == some address

/-- The three conditions of R122 for ROLL CALL, STATUS QUERY, DIRECT and RELEASE. -/
def Part.fromServing (p : Part) (site : Nat) : Bool :=
  p.aff.serving == some site && p.aff.machine == .registered && p.tuning.position == .home

/-- The context when the frame comes from the handover target in HO_SEND or HO_GRANT (R122). -/
def Part.answering (p : Part) (site : Nat) : Option Context :=
  match p.aff.ctx with
  | some ctx =>
    if ctx.target = site && (p.aff.machine = .hoSend || p.aff.machine = .hoGrant) then some ctx else none
  | none => none

/-- One well-formed air frame (R119): discarded or taken. -/
def Part.takeFrame (frame : AirFrame) (p : Part) : Part :=
  match frame with
  | .beacon b => p.takeBeacon b
  | .grant site unit slot sense =>
    match p.ownUnit unit, p.answering site with
    | true, some ctx => p.succeedHandover ctx slot sense
    | _, _ => p
  | .refuse site unit reason retry =>
    match p.ownUnit unit, p.answering site with
    | true, some ctx => p.failHandover ctx .refused (some reason) retry
    | _, _ => p
  | .release site unit retry => if p.ownUnit unit && p.fromServing site then p.release site retry else p
  | .rollCall site => if p.fromServing site then p.rollCall site else p
  | .statusQuery site unit => if p.ownUnit unit && p.fromServing site then p.statusQuery site else p
  | .direct site kind address target channel =>
    if p.addressed kind address && p.fromServing site then p.direct target channel else p
  | .register .. => p
  | .rollAnswer .. => p
  | .statusReport .. => p
  | .deregister .. => p

end Sys2Proof.Machine
end

