-- ==== Sys2Proof/Machine/LineMonitor.lean ====
section
/-! DEFINITION. The line monitor (chapter 10): debouncing, active changes, the host's account, the battery condition,
and the configuration. -/

namespace Sys2Proof.Machine

/-- The battery condition changes, with its BATTERY notice; an unchanged condition queues nothing (R174). -/
def Part.setBattery (condition : BattCondition) (code : Option Byte) (p : Part) : Part :=
  if p.lines.battery = condition then p
  else ({ p with lines.battery := condition } : Part).queueNotice (.battery condition p.lines.battMode code)

/-- In digital mode the condition follows the active state of BATT (R174). -/
def Part.judgeDigital (p : Part) : Part := p.setBattery (if p.active .batt then .low else .normal) none

/-- In ANALOG mode a code is judged with hysteresis (R174). -/
def Part.judgeCode (code : Byte) (p : Part) : Part :=
  match p.lines.battery with
  | .normal => p.setBattery (if code.toNat < p.params.battLow then .low else .normal) (some code)
  | .low =>
    p.setBattery (if p.params.battLow + p.params.battHyst ≤ code.toNat then .normal else .low) (some code)

/-- An input becoming active, handed to the blocks that act on it (R169). The order of the blocks for PTT is DESIGN
CHOICE (log entry 4). -/
def Part.becameActive (i : Input) (p : Part) : Part :=
  match i with
  | .ptt => p.schedPtt.notePtt.affPtt
  | .call => p.schedCall
  | .emerg => { p with aff.request := true }
  | .batt => p.judgeDigital

/-- An input becoming inactive reaches only the battery condition (R169). -/
def Part.becameInactive (i : Input) (p : Part) : Part :=
  match i with
  | .batt => p.judgeDigital
  | _ => p

/-- The active state of an input as it was, against what it is now (R169). -/
def Part.activeChange (i : Input) (was : Bool) (p : Part) : Part :=
  match was, p.active i with
  | false, true => p.becameActive i
  | true, false => p.becameInactive i
  | _, _ => p

def Part.setInput (i : Input) (x : InputLine) (p : Part) : Part := { p with lines := p.lines.set i x }

/-- The change-pending marks in the order of their bits (R196). -/
def Lines.marks (l : Lines) : List Bool := [l.ptt.mark, l.call.mark, l.emerg.mark, l.batt.mark]

/-- The active states in the order of their bits (R196). -/
def Lines.levels (l : Lines) : List Bool := [l.ptt.active, l.call.active, l.emerg.active, l.batt.active]

/-- The change-pending mark of an input is judged, with LINE_CHANGE when every mark was clear (R172). -/
def Part.judgeMark (i : Input) (p : Part) : Part :=
  let x := p.lines.get i
  if x.report && x.debounced.isSome && x.debounced != x.reference && !x.mark then
    let first := p.lines.marks.all (fun m => !m)
    let p := p.setInput i { x with mark := true }
    if first then p.queueNotice (.lineChange p.lines.marks p.lines.levels) else p
  else p

/-- The debounced level takes the raw level (R168). A first debounced level is the reference too, with no mark (R170);
in digital mode BATT's first level judges the condition (R175). -/
def Part.takeLevel (i : Input) (p : Part) : Part :=
  let x := p.lines.get i
  if x.debounced.isSome then
    ((p.setInput i { x with debounced := some x.raw, timer := none }).judgeMark i).activeChange i x.active
  else
    let p := p.setInput i { x with debounced := some x.raw, timer := none, reference := some x.raw }
    if i = .batt then p.judgeDigital else p.activeChange i false

/-- The debounce of an input starts against a raw level that differs from the debounced one: by the timer, or at once
with DEBOUNCE_MS at 0 (R168). A DEBOUNCE_MS of 0 does not reach a timer that runs, which starts again with its own
period (R178). -/
def Part.startDebounce (i : Input) (p : Part) : Part :=
  if p.params.debounceMs = 0 && (p.lines.get i).timer.isNone then p.takeLevel i
  else if p.params.debounceMs = 0 then p
  else p.setInput i { p.lines.get i with timer := some p.params.debounceMs }

/-- BATT in ANALOG mode is not sensed as a logic input (R174). -/
def Part.sensed (p : Part) (i : Input) : Bool := !(i == .batt && p.lines.battMode == .analog)

/-- The raw level of an input changes (R168). -/
def Part.edge (i : Input) (level : Bool) (p : Part) : Part :=
  let x := p.lines.get i
  let p := p.setInput i { x with raw := level }
  if !p.sensed i then p
  else if x.debounced = some level then p.setInput i { x with raw := level, timer := none }
  else p.startDebounce i

/-- One input's configuration is replaced; levels, timer and reference are left (R171). -/
def InputLine.configure (c : InputConfig) (x : InputLine) : InputLine :=
  { x with polarity := c.polarity, report := c.report }

/-- BATT leaves logic sensing: timer stopped, levels unknown, mark cleared (R175). -/
def InputLine.unsensed (x : InputLine) : InputLine :=
  { x with debounced := none, timer := none, reference := none, mark := false }

/-- Digital to ANALOG: a battery conversion is due at once (R175). -/
def Part.toAnalog (p : Part) : Part := p.askBattery

/-- ANALOG to digital: the timer is stopped, a waiting conversion withdrawn, one under way not judged, and BATT's
debounce starts (R175). -/
def Part.toDigital (p : Part) : Part :=
  let p := { p with
    lines.battTimer := none
    conv.waiting := if p.conv.waiting == some ConvUser.battery then none else p.conv.waiting
    conv.state := if p.conv.state == ConvState.battery true then ConvState.battery false else p.conv.state }
  p.startDebounce .batt

/-- A taken LINES SET (R171, R175): the whole configuration, then what each change does. DESIGN CHOICE (log entry 16):
the order of the changes. DESIGN CHOICE (log entry 32): the marks are judged one by one, so that LINE_CHANGE names the
first mark set. DESIGN CHOICE (log entry 33): at a change to ANALOG, BATT's levels and mark are gone before the other
inputs are judged. -/
def Part.configureLines (ptt call emerg batt : InputConfig) (mode : BattMode) (p : Part) : Part :=
  let old := p.lines
  let toAnalog := old.battMode == .digital && mode == .analog
  let toDigital := old.battMode == .analog && mode == .digital
  let newBatt := old.batt.configure batt
  let p := { p with
    lines.ptt := old.ptt.configure ptt
    lines.call := old.call.configure call
    lines.emerg := old.emerg.configure emerg
    lines.batt := if toAnalog then newBatt.unsensed else newBatt
    lines.battMode := mode }
  let p := ((p.activeChange .ptt old.ptt.active).activeChange .call old.call.active).activeChange .emerg old.emerg.active
  let p := if toAnalog then p else p.activeChange .batt old.batt.active
  let p := (((p.judgeMark .ptt).judgeMark .call).judgeMark .emerg).judgeMark .batt
  if toAnalog then p.toAnalog else if toDigital then p.toDigital else p

/-- The references take the debounced levels and every mark is cleared (R173). -/
def InputLine.reread (x : InputLine) : InputLine := { x with reference := x.debounced, mark := false }

def Part.rereadLines (p : Part) : Part :=
  { p with
    lines.ptt := p.lines.ptt.reread
    lines.call := p.lines.call.reread
    lines.emerg := p.lines.emerg.reread
    lines.batt := p.lines.batt.reread }

end Sys2Proof.Machine
end

