-- ==== Sys2Proof/Machine/Reset.lean ====
section
/-! DEFINITION. The blocks as a reset leaves them. Each reset of chapters 1 to 11 is put together from these. -/

namespace Sys2Proof.Machine

/-- R25: every slot of the table is empty. -/
def Part.emptyTable : List (Option SiteRecord) := List.replicate 24 none

/-- R41, after every kind of reset. -/
def Tuning.atReset : Tuning where
  op := none
  tuned := none
  position := .parked
  holder := none
  waitSched := none
  waitAff := none
  retryWaiting := false
  fault := false
  pins := .low
  latched := none
  driven := []

/-- R59, after every kind of reset. -/
def Sched.atReset : Sched where
  work := none
  burst := none
  gap := none
  visitPtr := 0
  huntPtr := 0
  conserve := 1

/-- R101 and R167, after every kind of reset, with the watch slots given. -/
def Engine.atReset (watch0 watch1 : Option Watch) : Engine where
  state := .halted
  stepFlag := false
  continuePending := false
  watch0 := watch0
  watch1 := watch1
  roundTimer := none
  cand := none
  holdoff := 0
  releaseOwed := false

/-- R115: the counters stand at the values of FADE_COUNT and LOST_COUNT after the reset. -/
def Sup.atReset (ps : Params) : Sup where
  active := false
  state := .healthy
  cls := none
  timer := none
  fine := ps.fadeCount
  coarse := ps.lostCount
  excuse := false
  pttNoted := false
  gapNoted := false

/-- R139, R143 and R123: RESET ENGINE keeps the identity, and the request number is kept but for power-on and the
RESET line. -/
def Aff.atReset (identity : Option Identity) (lastNumber : Nat) : Aff where
  serving := none
  slot := none
  sense := none
  identity := identity
  machine := .none
  ctx := none
  hoTimer := none
  tx := none
  txTimer := none
  lastNumber := lastNumber
  registerDue := false
  deregisterDue := false
  signingOff := false
  request := false

/-- R170 and R179 for one input: its debounce timer starts at once against the level on the pin. -/
def InputLine.atReset (ps : Params) (raw : Bool) : InputLine where
  polarity := .activeHigh
  report := false
  raw := raw
  debounced := none
  timer := some ps.debounceMs
  reference := none
  mark := false

/-- R177 and R179; the count of MUTE's changes is the model's own (log entry 20). -/
def Lines.atReset (ps : Params) (ptt call emerg batt : Bool) : Lines where
  ptt := InputLine.atReset ps ptt
  call := InputLine.atReset ps call
  emerg := InputLine.atReset ps emerg
  batt := InputLine.atReset ps batt
  battMode := .digital
  battery := .normal
  battTimer := none
  mute := true
  txinh := false
  muteEdges := 0

/-- R179. -/
def Conv.atReset : Conv where
  state := .idle
  waiting := none

/-- R195. All 13 notice kinds are enabled (R190, R196). -/
def Link.atReset : Link where
  rx := .hunt
  gapTimer := none
  buffer := none
  reply := none
  notices := []
  enabled := 0x1FFF
  lost := false
  tx := .idle
  ltx := ltxRest
  resetDue := none

/-- The whole part after power-on or the RESET line (R195 and the reset rule of each chapter), with the levels then on
the four input pins. -/
def Part.atPowerOn (ptt call emerg batt : Bool) (freeCount : Nat) : Part where
  params := Params.defaults
  table := Part.emptyTable
  tuning := Tuning.atReset
  sched := Sched.atReset
  engine := Engine.atReset none none
  sup := Sup.atReset Params.defaults
  aff := Aff.atReset none 0
  lines := Lines.atReset Params.defaults ptt call emerg batt
  conv := Conv.atReset
  link := Link.atReset
  freeCount := freeCount

end Sys2Proof.Machine
end

