-- ==== Sys2Proof/Machine/LinkOps.lean ====
section
/-! DEFINITION. The link interface (chapter 11): the end of a step, the interpretation of a record, the receiver, and
the two kinds of reset. -/

namespace Sys2Proof.Machine

/-- What ends every step of the part: a STEP round that has ended (R159), the transmitter (R185), and the outputs once
more, which have been driven at each change (R177). -/
def Part.finish (p : Part) : Part := p.endStepRound.startSending.driveOutputs

/-! ### Interpretation (R182 to R184) -/

def Part.ok (p : Part) (data : List Byte) : Answer := ⟨p, .ok, data⟩

/-- A refused command changes no state (R184). -/
def Part.refuse (p : Part) (code : ReplyCode) : Answer := ⟨p, code, []⟩

/-- A record waits in the receive buffer; the receiver is in HUNT with its gap timer stopped (R182). -/
def Part.keepRecord (item : RxItem) (p : Part) : Part :=
  { p with link.buffer := some item, link.rx := .hunt, link.gapTimer := none }

/-- The interpretation is complete: the reply stands in the reply slot and the buffer is empty (R182). -/
def Part.placeReply (r : Reply) (p : Part) : Part :=
  ({ p with link.buffer := none, link.reply := some r } : Part).finish

/-- A record that has arrived whole (log entry 2). It is interpreted as soon as the reply slot is empty, and until then
it stays in the receive buffer; with the buffer occupied its bytes are discarded (R182). -/
def Part.interpret (item : RxItem) (f : Part → Part × Reply) (p : Part) : Part :=
  if p.link.buffer.isSome then p
  else if p.link.reply.isSome then p.keepRecord item
  else (f p).1.placeReply (f p).2

/-- The judgement of a command record by R183's order: a payload without a tag or with tag 0 is refused BAD_ARG, then
the command's own checks, which refuse a wrong length BAD_ARG first. -/
def answerCommand (kind : Byte) (payload : List Byte) (f : List Byte → Part → Answer) (p : Part) : Part × Reply :=
  match payload with
  | [] => (p, ⟨kind + 0x80, 0, .badArg, []⟩)
  | tag :: args =>
    if tag = 0 then (p, ⟨kind + 0x80, 0, .badArg, []⟩)
    else ((f args p).part, ⟨kind + 0x80, tag, (f args p).code, (f args p).data⟩)

/-- One host command's record, interpreted. -/
def Part.command (kind : Byte) (payload : List Byte) (f : List Byte → Part → Answer) (p : Part) : Part :=
  p.interpret (.frame kind payload) (answerCommand kind payload f)

/-! ### The receiver (R181) -/

/-- A framing error: back to HUNT, with the result in the receive buffer. -/
def Part.framingError (cause : FrameCause) (p : Part) : Part :=
  { p with link.rx := .hunt, link.gapTimer := none, link.buffer := some (.error cause) }

/-- The last byte of a frame: with a sum of 0 the frame goes to the receive buffer, otherwise it is framing error
CHECK. -/
def Part.endFrame (len : Nat) (bytes : List Byte) (check : Byte) (p : Part) : Part :=
  if byte len + byteSum bytes + check = 0 then
    match bytes with
    | kind :: payload => { p with link.rx := .hunt, link.gapTimer := none, link.buffer := some (.frame kind payload) }
    | [] => p.framingError .check
  else p.framingError .check

/-- One byte on LRX, by the receiver's table; with the buffer occupied it is discarded (R181, R182). -/
def Part.receive (b : Byte) (p : Part) : Part :=
  if p.link.buffer.isSome then p
  else
    match p.link.rx with
    | .hunt => if b = 0x7E then { p with link.rx := .length, link.gapTimer := some 5 } else p
    | .length =>
      if 1 ≤ b.toNat && b.toNat ≤ 64 then { p with link.rx := .body b.toNat [], link.gapTimer := some 5 }
      else p.framingError .length
    | .body len bytes =>
      if bytes.length < len then { p with link.rx := .body len (bytes ++ [b]), link.gapTimer := some 5 }
      else p.endFrame len bytes b

/-! ### Resets (section 11.5) -/

/-- RESET ENGINE: each block as its chapter gives (R25, R41, R59, R101, R115, R139, R143, R167, R179, R194). The link
interface and the line monitor are kept; the ENGINE_STATE notice comes when the engine was RUNNING or FROZEN. -/
def Part.resetEngine (p : Part) : Part :=
  let was := p.engine.state
  let p := p.stopRun
  let p := { p with
    table := p.table.map (fun (o : Option SiteRecord) => o.bind SiteRecord.afterEngineReset)
    tuning := Tuning.atReset
    sched := Sched.atReset
    engine := Engine.atReset p.engine.watch0 p.engine.watch1
    sup := Sup.atReset p.params
    aff := Aff.atReset p.aff.identity p.aff.lastNumber }
  let p := p.driveOutputs
  if was = .halted then p else p.engineNotice .reset none

/-- Power-on and the RESET line have the same effect (R195, 00_scope.md). The pins keep the levels they have, and MUTE is
asserted (R177). -/
def Part.resetWhole (p : Part) : Part :=
  { Part.atPowerOn p.lines.ptt.raw p.lines.call.raw p.lines.emerg.raw p.lines.batt.raw p.freeCount with
    lines.muteEdges := if p.lines.mute then p.lines.muteEdges else p.lines.muteEdges + 1 }

/-- RESET ALL: every block as after power-on, but the request number and the receiver's side of the link are kept
(R123, R194). -/
def Part.resetAll (p : Part) : Part :=
  { p.resetWhole with
    aff.lastNumber := p.aff.lastNumber
    link.rx := p.link.rx
    link.gapTimer := p.link.gapTimer
    link.buffer := p.link.buffer }

/-- The reset that a sent RESET reply brings about (R194). -/
def Part.takeReset (p : Part) : Part :=
  match p.link.resetDue with
  | some .engine => ({ p with link.resetDue := none } : Part).resetEngine
  | some .all => p.resetAll
  | none => p

end Sys2Proof.Machine
end

