-- ==== Sys2Proof/Machine/State.lean ====
section
/-! DEFINITION. The state of the machine: the part and the queue of commands waiting for it. -/

namespace Sys2Proof.Machine

/-- The 620 and the commands waiting, first in first out (log entry 1). -/
structure State where
  part : Part
  pending : List Instr
  deriving DecidableEq, Repr

/-- Reasons to stop with a fault. No command raises one: the spec names no event that stops the part. -/
inductive Fault where
  /-- Raised by no command of this model. Stopping where the part goes on would be safe. -/
  | neverRaised
  deriving DecidableEq, Repr

/-- Reasons to refuse. -/
inductive Refusal where
  /-- Raised only by an arm of exec whose row has no meaning yet. Safe: nothing is claimed of such a row. -/
  | notModelled (mnemonic : String)
  deriving DecidableEq, Repr

/-- The machine right after power-on, with no command waiting. DESIGN CHOICE (log entry 5), unsafe: the four input
pins are low. DESIGN CHOICE (log entry 6): the count of free values starts at 0. -/
def State.reset : State where
  part := Part.atPowerOn false false false false 0
  pending := []

end Sys2Proof.Machine
end

