-- ==== Sys2Proof/Machine/CommandsLink.lean ====
section
/-! DEFINITION. The host commands of the link interface: INFO, PARAM SET, PARAM GET, STATUS, NOTICES, RESET, and the two
other interpretations of the receive buffer (sections 11.2, 11.3 and 11.5). -/

namespace Sys2Proof.Machine

/-- The state with another part; the queue of commands is left alone. -/
def State.withPart (s : State) (p : Part) : State := { s with part := p }

/-- INFO (R186). -/
def answerInfo (args : List Byte) (p : Part) : Answer :=
  match args with
  | [] => p.ok (bytes16 0x3A17 ++ bytes16 620 ++ [1])
  | _ => p.refuse .badArg

/-- What storing a parameter does at once besides (R110). -/
def Part.storeParam (q : Param) (v : Int) (p : Part) : Part :=
  let p := { p with params := p.params.set q v }
  match q with
  | .fadeCount => p.reduceFine
  | .lostCount => p.reduceCoarse
  | _ => p

/-- PARAM SET (R187). DESIGN CHOICE (log entry 34): a value that was held replies CLAMPED also where the held value is the
one stored before. -/
def answerParamSet (args : List Byte) (p : Part) : Answer :=
  match args with
  | [id, v1, v0] =>
    match paramOfCode id.toNat with
    | some q =>
      let held := q.hold (s16 v1 v0)
      ⟨p.storeParam q held, if held = s16 v1 v0 then .ok else .clamped, id :: signedBytes16 held⟩
    | none => p.refuse .badArg
  | _ => p.refuse .badArg

/-- PARAM GET (R188). -/
def answerParamGet (args : List Byte) (p : Part) : Answer :=
  match args with
  | [id] =>
    match paramOfCode id.toNat with
    | some q => p.ok (id :: signedBytes16 (p.params.get q))
    | none => p.refuse .badArg
  | _ => p.refuse .badArg

/-- The freeze cause bytes of STATUS (R196). -/
def EngineState.causeBytes : EngineState → List Byte
  | .frozen (.watch slot) => [1, byte slot]
  | .frozen .tune => [2, 0]
  | _ => [0, 0]

/-- The pending candidate bytes of STATUS (R189, R196). -/
def candidateBytes : Option Candidate → List Byte
  | some c => bytes16 c.site ++ [byte c.count, byte c.cause.code]
  | none => bytes16 0 ++ [0, 0xFF]

/-- The 18 bytes of the STATUS reply (R189, R196). -/
def Part.statusBytes (p : Part) : List Byte :=
  [byte p.engine.state.code] ++ p.engine.state.causeBytes ++
    [flagByte [p.engine.stepFlag, p.engine.continuePending], byte p.aff.machine.code] ++
    bytes16 (p.aff.serving.getD 0) ++
    [byte (p.sup.state.code + if p.sup.active then 0 else 128)] ++
    candidateBytes p.engine.cand ++
    [byte p.engine.holdoff, byte p.tuning.position.code, byte p.lines.battery.code, boolByte p.aff.request,
     byte ((p.aff.tx.map (fun t => t.kind.code)).getD 0), boolByte p.aff.identity.isSome]

/-- STATUS (R189). -/
def answerStatus (args : List Byte) (p : Part) : Answer :=
  match args with
  | [] => p.ok p.statusBytes
  | _ => p.refuse .badArg

/-- The enable set in force: the bits of the command, with TRANSMIT's bit set (R190). -/
def enableSet (e1 e0 : Byte) : BitVec 16 := BitVec.ofNat 16 (u16 e1 e0) ||| 0x0010

/-- NOTICES (R190): bits 13 to 15 are undefined. -/
def answerNotices (args : List Byte) (p : Part) : Answer :=
  match args with
  | [e1, e0] =>
    if 0x2000 ≤ u16 e1 e0 then p.refuse .badArg
    else ({ p with link.enabled := enableSet e1 e0 } : Part).ok (bytes16 (enableSet e1 e0).toNat)
  | _ => p.refuse .badArg

/-- RESET (R194): the reset takes effect when the reply has been sent. -/
def answerReset (args : List Byte) (p : Part) : Answer :=
  match args with
  | [scope] =>
    match scopeOfCode scope.toNat with
    | some sc => ({ p with link.resetDue := some sc } : Part).ok []
    | none => p.refuse .badArg
  | _ => p.refuse .badArg

def execInfo (payload : List Byte) (s : State) : Host.Outcome State Fault Refusal :=
  .next (s.withPart (s.part.command 0x01 payload answerInfo))

def execParamSet (payload : List Byte) (s : State) : Host.Outcome State Fault Refusal :=
  .next (s.withPart (s.part.command 0x02 payload answerParamSet))

def execParamGet (payload : List Byte) (s : State) : Host.Outcome State Fault Refusal :=
  .next (s.withPart (s.part.command 0x03 payload answerParamGet))

def execStatus (payload : List Byte) (s : State) : Host.Outcome State Fault Refusal :=
  .next (s.withPart (s.part.command 0x16 payload answerStatus))

def execNotices (payload : List Byte) (s : State) : Host.Outcome State Fault Refusal :=
  .next (s.withPart (s.part.command 0x17 payload answerNotices))

def execReset (payload : List Byte) (s : State) : Host.Outcome State Fault Refusal :=
  .next (s.withPart (s.part.command 0x18 payload answerReset))

/-- The FRAME_ERROR reply with its cause and tag 0 (R183 step 1, R196). -/
def answerFrameError (cause : FrameCause) (p : Part) : Part × Reply := (p, ⟨0x80, 0, .frameError, [byte (FrameCause.code cause)]⟩)

/-- FRAME_ERROR (R183 step 1). -/
def execFrameError (cause : FrameCause) (s : State) : Host.Outcome State Fault Refusal :=
  .next (s.withPart (s.part.interpret (.error cause) (answerFrameError cause)))

/-- The UNKNOWN reply with the refused kind; its tag is the first payload byte, or 0 (R183 step 2). -/
def answerUnknown (kind : Byte) (payload : List Byte) (p : Part) : Part × Reply :=
  (p, ⟨0x80, payload.headD 0, .unknown, [kind]⟩)

/-- UNKNOWN (R183 step 2). A record of a command kind is not one: the step does not occur (log entry 1). -/
def execUnknown (kind : Byte) (payload : List Byte) (s : State) : Host.Outcome State Fault Refusal :=
  if isCommandKind kind then .next s
  else .next (s.withPart (s.part.interpret (.frame kind payload) (answerUnknown kind payload)))

end Sys2Proof.Machine
end

