-- ==== Sys2Proof/Machine/CommandsTable.lean ====
section
/-! DEFINITION. The host commands on the site table (section 1.4): SITE PUT, SITE DROP, SITE GET, SITE LIST. -/

namespace Sys2Proof.Machine

/-- A taken SITE PUT for a site in the table: PINNED, the bias used, and a channel change if the channel differs
(R18). -/
def Part.putExisting (r : SiteRecord) (channel : Nat) (bias : Int) (p : Part) : Part :=
  let p := p.updateRec r.site (fun r => { r with origin := .pinned, bias := bias })
  (if r.channel = channel then p else p.rechannel r.site channel).offerWrite r.site .host

/-- SITE PUT, with its checks in the order of R16 (R16 to R18). -/
def Part.sitePut (site channel : Nat) (bias : Int) (p : Part) : Answer :=
  let held := clampInt bias (-40) 40
  let code : ReplyCode := if held = bias then .ok else .clamped
  if !siteOk site || !channelOk channel then p.refuse .badArg
  else
    match p.record site with
    | some r =>
      if p.aff.serving = some site && r.channel != channel then p.refuse .state
      else if p.target = some site && r.channel != channel then p.refuse .busy
      else ⟨p.putExisting r channel held, code, [signedByte held]⟩
    | none =>
      match p.makeRoom [] with
      | none => p.refuse .tableFull
      | some (i, p) =>
        ⟨(p.place i (SiteRecord.fresh site channel .pinned held)).offerWrite site .host, code, [signedByte held]⟩

def answerSitePut (args : List Byte) (p : Part) : Answer :=
  match args with
  | [s1, s0, c1, c0, b] => p.sitePut (u16 s1 s0) (u16 c1 c0) (s8 b)
  | _ => p.refuse .badArg

/-- A taken SITE DROP; the pending candidate is cleared when it was the dropped record (R19). -/
def Part.dropSite (site : Nat) (p : Part) : Part :=
  let cand := if p.engine.cand.map Candidate.site = some site then none else p.engine.cand
  ({ p with engine.cand := cand } : Part).removeRec site

/-- SITE DROP, with its checks in the order of R19. -/
def Part.siteDrop (site : Nat) (p : Part) : Answer :=
  if !siteOk site then p.refuse .badArg
  else if (p.record site).isNone then p.refuse .notFound
  else if p.aff.serving = some site then p.refuse .state
  else if p.target = some site then p.refuse .busy
  else (p.dropSite site).ok []

def answerSiteDrop (args : List Byte) (p : Part) : Answer :=
  match args with
  | [s1, s0] => p.siteDrop (u16 s1 s0)
  | _ => p.refuse .badArg

/-- The roles byte of a site record (R11, R196). -/
def Part.rolesByte (p : Part) (r : SiteRecord) : Byte :=
  flagByte [p.aff.serving == some r.site, p.engine.cand.map Candidate.site == some r.site, p.target == some r.site,
    p.coChannel r]

/-- The presence byte of a site record (R196). -/
def SiteRecord.presenceByte (r : SiteRecord) : Byte :=
  flagByte [r.level.isSome, r.confirm.isSome, r.load.isSome, r.bar.isSome]

/-- The 19 bytes of a site record as SITE GET returns it (R20, R196). -/
def Part.recordBytes (p : Part) (position : Nat) (r : SiteRecord) : List Byte :=
  [byte position, p.rolesByte r] ++ bytes16 r.site ++ bytes16 r.channel ++
    [byte r.origin.code, signedByte r.bias, r.presenceByte, byte ((r.level.map Level.mean).getD 0)] ++
    bytes16 ((r.level.map Level.f16).getD 0) ++
    [byte r.age, byte (r.confirm.getD 0), byte (r.load.getD 0),
     byte ((r.bar.map (fun b => b.kind.code)).getD 0), byte ((r.bar.map Bar.remaining).getD 0),
     byte r.failures, byte r.advAge]

/-- SITE GET of a selected slot (R20). -/
def Part.siteGet (p : Part) (found : Option (Nat × SiteRecord)) : Answer :=
  match found with
  | some (i, r) => p.ok (p.recordBytes i r)
  | none => p.refuse .notFound

/-- SITE GET by site ID or by position (R20). -/
def answerSiteGet (args : List Byte) (p : Part) : Answer :=
  match args with
  | [sel, v1, v0] =>
    let v := u16 v1 v0
    match sel.toNat with
    | 0 => if siteOk v then p.siteGet (p.find v) else p.refuse .badArg
    | 1 => if v ≤ 23 then p.siteGet ((p.slotAt v).map (fun r => (v, r))) else p.refuse .badArg
    | _ => p.refuse .badArg
  | _ => p.refuse .badArg

/-- The occupancy of SITE LIST: 24 bits, positions 16..23 first (R196). -/
def Part.occupancyBytes (p : Part) : List Byte :=
  let bits := p.table.map Option.isSome
  [flagByte (bits.drop 16), flagByte ((bits.drop 8).take 8), flagByte (bits.take 8)]

/-- The site IDs of SITE LIST, in ascending order of position (R21, R196). -/
def Part.listedSites (p : Part) : List Byte := p.occupied.flatMap (fun x => bytes16 x.2.site)

/-- SITE LIST (R21). -/
def answerSiteList (args : List Byte) (p : Part) : Answer :=
  match args with
  | [] => p.ok ([byte p.occupied.length] ++ p.occupancyBytes ++ p.listedSites)
  | _ => p.refuse .badArg

def execSitePut (payload : List Byte) (s : State) : Host.Outcome State Fault Refusal :=
  .next (s.withPart (s.part.command 0x05 payload answerSitePut))

def execSiteDrop (payload : List Byte) (s : State) : Host.Outcome State Fault Refusal :=
  .next (s.withPart (s.part.command 0x06 payload answerSiteDrop))

def execSiteGet (payload : List Byte) (s : State) : Host.Outcome State Fault Refusal :=
  .next (s.withPart (s.part.command 0x07 payload answerSiteGet))

def execSiteList (payload : List Byte) (s : State) : Host.Outcome State Fault Refusal :=
  .next (s.withPart (s.part.command 0x08 payload answerSiteList))

end Sys2Proof.Machine
end

