-- ==== Sys2Proof/Machine/CommandsEngine.lean ====
section
/-! DEFINITION. The host commands on the engine (chapter 9): RUN, HALT, STEP, CONTINUE, WATCH SET, WATCH CLEAR. -/

namespace Sys2Proof.Machine

/-- RUN, with its checks in the order of R153. -/
def Part.runEngine (p : Part) : Answer :=
  if p.engine.stepFlag then p.refuse .busy
  else if p.engine.state != .halted then p.refuse .state
  else if p.aff.identity.isNone then p.refuse .noIdentity
  else (p.startRunning .run).ok []

def answerRun (args : List Byte) (p : Part) : Answer :=
  match args with
  | [] => p.runEngine
  | _ => p.refuse .badArg

/-- HALT (R154): the rounds stop, a STEP round is ended, the freeze cause and the continue pending mark go. -/
def Part.haltEngine (p : Part) : Answer :=
  if p.engine.state == .halted && !p.engine.stepFlag then p.refuse .state
  else
    (({ p.endRound with engine.state := .halted, engine.continuePending := false } : Part).engineNotice .halt none).ok []

def answerHalt (args : List Byte) (p : Part) : Answer :=
  match args with
  | [] => p.haltEngine
  | _ => p.refuse .badArg

/-- A handover or a gap already in flight was not begun by the STEP round that now begins (R159). -/
def Part.beginStep (p : Part) : Part :=
  { p with
    engine.stepFlag := true
    aff.ctx := p.aff.ctx.map (fun c => { c with inStep := false })
    sched.gap := p.sched.gap.map (fun g => { g with inStep := false }) }

/-- STEP, with its checks in the order of R158; the round is made at once. -/
def Part.stepEngine (p : Part) : Answer :=
  if p.engine.stepFlag then p.refuse .busy
  else if p.engine.state == .running then p.refuse .state
  else if p.engine.continuePending then p.refuse .busy
  else if p.aff.identity.isNone then p.refuse .noIdentity
  else p.beginStep.round.ok []

def answerStep (args : List Byte) (p : Part) : Answer :=
  match args with
  | [] => p.stepEngine
  | _ => p.refuse .badArg

/-- The state that a taken CONTINUE leaves, by the freeze cause (R156, R157). -/
def Part.continueFrom (cause : FreezeCause) (p : Part) : Part :=
  match cause with
  | .watch _ => p.startRunning .cont
  | .tune => ({ p with engine.continuePending := true } : Part).askRetry

/-- CONTINUE, with its checks in the order of R156. -/
def Part.continueEngine (p : Part) : Answer :=
  if p.engine.stepFlag then p.refuse .busy
  else
    match p.engine.state with
    | .frozen cause =>
      if p.engine.continuePending then p.refuse .busy
      else if p.aff.identity.isNone then p.refuse .noIdentity
      else (p.continueFrom cause).ok []
    | _ => p.refuse .state

def answerContinue (args : List Byte) (p : Part) : Answer :=
  match args with
  | [] => p.continueEngine
  | _ => p.refuse .badArg

/-- Replacing or emptying a watch slot (R162). -/
def Part.setWatch (slot : Nat) (watch : Option Watch) (p : Part) : Answer :=
  match slot with
  | 0 => ({ p with engine.watch0 := watch } : Part).ok []
  | 1 => ({ p with engine.watch1 := watch } : Part).ok []
  | _ => p.refuse .badArg

/-- WATCH SET (R162). -/
def answerWatchSet (args : List Byte) (p : Part) : Answer :=
  match args with
  | [slot, s1, s0, mode, source] =>
    match watchModeOfCode mode.toNat, watchSourceOfCode source.toNat with
    | some m, some src =>
      if u16 s1 s0 ≤ 4095 then p.setWatch slot.toNat (some ⟨u16 s1 s0, m, src⟩) else p.refuse .badArg
    | _, _ => p.refuse .badArg
  | _ => p.refuse .badArg

/-- WATCH CLEAR (R162). -/
def answerWatchClear (args : List Byte) (p : Part) : Answer :=
  match args with
  | [slot] => p.setWatch slot.toNat none
  | _ => p.refuse .badArg

def execRun (payload : List Byte) (s : State) : Host.Outcome State Fault Refusal :=
  .next (s.withPart (s.part.command 0x09 payload answerRun))

def execHalt (payload : List Byte) (s : State) : Host.Outcome State Fault Refusal :=
  .next (s.withPart (s.part.command 0x0A payload answerHalt))

def execStep (payload : List Byte) (s : State) : Host.Outcome State Fault Refusal :=
  .next (s.withPart (s.part.command 0x0B payload answerStep))

def execContinue (payload : List Byte) (s : State) : Host.Outcome State Fault Refusal :=
  .next (s.withPart (s.part.command 0x0C payload answerContinue))

def execWatchSet (payload : List Byte) (s : State) : Host.Outcome State Fault Refusal :=
  .next (s.withPart (s.part.command 0x0D payload answerWatchSet))

def execWatchClear (payload : List Byte) (s : State) : Host.Outcome State Fault Refusal :=
  .next (s.withPart (s.part.command 0x0E payload answerWatchClear))

end Sys2Proof.Machine
end

