-- ==== Sys2Proof/Machine/CommandsAir.lean ====
section
/-! DEFINITION. The host commands of the affiliation controller (chapters 7 and 8): IDENTITY, MOVE, AIR IN, AIR SENT,
REQUEST, SIGN OFF. -/

namespace Sys2Proof.Machine

/-- IDENTITY (R118). DEDUCED (log entry 21): the machine state is checked before the ranges. -/
def answerIdentity (args : List Byte) (p : Part) : Answer :=
  match args with
  | [u1, u0, g1, g0] =>
    if p.aff.machine != .none then p.refuse .state
    else if !unitOk (u16 u1 u0) || !groupOk (u16 g1 g0) then p.refuse .badArg
    else ({ p with aff.identity := some ⟨u16 u1 u0, u16 g1 g0⟩ } : Part).ok []
  | _ => p.refuse .badArg

/-- The machine is REGISTERED with no handover begun and no sign-off (R135, R137). -/
def Part.settled (p : Part) : Bool := p.aff.machine == .registered && p.aff.ctx.isNone && !p.aff.signingOff

/-- MOVE, with its checks in the order of R135. -/
def Part.moveTo (site : Nat) (p : Part) : Answer :=
  if !siteOk site then p.refuse .badArg
  else if !p.settled then p.refuse .state
  else
    match p.record site with
    | none => p.refuse .notFound
    | some r =>
      if p.aff.serving = some site || p.coChannel r then p.refuse .state
      else if r.confirm.isNone then p.refuse .notConfirmed
      else (p.beginHandover site .host false).ok []

def answerMove (args : List Byte) (p : Part) : Answer :=
  match args with
  | [s1, s0] => p.moveTo (u16 s1 s0)
  | _ => p.refuse .badArg

/-- AIR IN takes 3 to 33 bytes after the tag (R196); a malformed frame is refused BAD_ARG, any other is answered OK
(R119). -/
def answerAirIn (args : List Byte) (p : Part) : Answer :=
  if 3 ≤ args.length && args.length ≤ 33 then
    match parseAir args with
    | some frame => (p.takeFrame frame).ok []
    | none => p.refuse .badArg
  else p.refuse .badArg

/-- AIR SENT with a defined outcome: STATE when its request is not the one outstanding (R124). -/
def Part.airSent (number : Nat) (outcome : TxOutcome) (p : Part) : Answer :=
  match p.aff.tx with
  | some tx => if tx.number = number then (p.endTx tx outcome).ok [] else p.refuse .state
  | none => p.refuse .state

/-- AIR SENT (R124, R196). DESIGN CHOICE (log entry 36): an undefined outcome code is refused BAD_ARG before the request
is looked at. -/
def answerAirSent (args : List Byte) (p : Part) : Answer :=
  match args with
  | [number, outcome] =>
    match outcomeOfCode outcome.toNat with
    | some o => p.airSent number.toNat o
    | none => p.refuse .badArg
  | _ => p.refuse .badArg

/-- REQUEST (R141): 0 is SET, 1 is CANCEL, which clears the mark only while EMERG is inactive. -/
def answerRequest (args : List Byte) (p : Part) : Answer :=
  match args with
  | [action] =>
    match action.toNat with
    | 0 => ({ p with aff.request := true } : Part).ok []
    | 1 => (if p.active .emerg then p else { p with aff.request := false }).ok []
    | _ => p.refuse .badArg
  | _ => p.refuse .badArg

/-- A taken SIGN OFF: the DEREGISTER is issued at once, or waits for a gap to end or an outstanding request to end
(R54, R123, R137). -/
def Part.beginSignOff (p : Part) : Part :=
  let p := { p with aff.signingOff := true, aff.deregisterDue := true }
  if p.homeGap then p.abortHomeGap
  else if p.aff.tx.isSome then p
  else p.issueDeregister

/-- SIGN OFF (R137). -/
def answerSignOff (args : List Byte) (p : Part) : Answer :=
  match args with
  | [] => if p.settled then p.beginSignOff.ok [] else p.refuse .state
  | _ => p.refuse .badArg

def execIdentity (payload : List Byte) (s : State) : Host.Outcome State Fault Refusal :=
  .next (s.withPart (s.part.command 0x04 payload answerIdentity))

def execMove (payload : List Byte) (s : State) : Host.Outcome State Fault Refusal :=
  .next (s.withPart (s.part.command 0x0F payload answerMove))

def execAirIn (payload : List Byte) (s : State) : Host.Outcome State Fault Refusal :=
  .next (s.withPart (s.part.command 0x10 payload answerAirIn))

def execAirSent (payload : List Byte) (s : State) : Host.Outcome State Fault Refusal :=
  .next (s.withPart (s.part.command 0x11 payload answerAirSent))

def execRequest (payload : List Byte) (s : State) : Host.Outcome State Fault Refusal :=
  .next (s.withPart (s.part.command 0x14 payload answerRequest))

def execSignOff (payload : List Byte) (s : State) : Host.Outcome State Fault Refusal :=
  .next (s.withPart (s.part.command 0x15 payload answerSignOff))

end Sys2Proof.Machine
end

