-- ==== Sys2Proof/Machine/CommandsLines.lean ====
section
/-! DEFINITION. The host commands of the line monitor (section 10.2): LINES SET and LINES READ. -/

namespace Sys2Proof.Machine

/-- An input byte of LINES SET: polarity in bit 0, change report in bit 1, the other bits 0 (R196). -/
def configOfByte (b : Byte) : Option InputConfig :=
  if b.toNat < 4 then some ⟨if b.getLsbD 0 then .activeLow else .activeHigh, b.getLsbD 1⟩ else none

/-- LINES SET (R171). -/
def answerLinesSet (args : List Byte) (p : Part) : Answer :=
  match args with
  | [ptt, call, emerg, batt, mode] =>
    match configOfByte ptt, configOfByte call, configOfByte emerg, configOfByte batt, battModeOfCode mode.toNat with
    | some cp, some cc, some ce, some cb, some m => (p.configureLines cp cc ce cb m).ok []
    | _, _, _, _, _ => p.refuse .badArg
  | _ => p.refuse .badArg

/-- LINES READ (R173): the reply is built from the levels and marks, then the references are taken. -/
def answerLinesRead (args : List Byte) (p : Part) : Answer :=
  match args with
  | [] => p.rereadLines.ok [flagByte p.lines.levels, flagByte p.lines.marks]
  | _ => p.refuse .badArg

def execLinesSet (payload : List Byte) (s : State) : Host.Outcome State Fault Refusal :=
  .next (s.withPart (s.part.command 0x12 payload answerLinesSet))

def execLinesRead (payload : List Byte) (s : State) : Host.Outcome State Fault Refusal :=
  .next (s.withPart (s.part.command 0x13 payload answerLinesRead))

end Sys2Proof.Machine
end

