-- ==== Sys2Proof/Machine/Interpret.lean ====
section
/-! DEFINITION. What the receive buffer holds, interpreted as soon as the reply slot is empty (R182, R183). -/

namespace Sys2Proof.Machine

/-- The answer of each command kind; `none` is a kind that is not one (R183 step 2, R196's command table). -/
def answerOfKind (kind : Byte) : Option (List Byte → Part → Answer) :=
  match kind.toNat with
  | 0x01 => some answerInfo
  | 0x02 => some answerParamSet
  | 0x03 => some answerParamGet
  | 0x04 => some answerIdentity
  | 0x05 => some answerSitePut
  | 0x06 => some answerSiteDrop
  | 0x07 => some answerSiteGet
  | 0x08 => some answerSiteList
  | 0x09 => some answerRun
  | 0x0A => some answerHalt
  | 0x0B => some answerStep
  | 0x0C => some answerContinue
  | 0x0D => some answerWatchSet
  | 0x0E => some answerWatchClear
  | 0x0F => some answerMove
  | 0x10 => some answerAirIn
  | 0x11 => some answerAirSent
  | 0x12 => some answerLinesSet
  | 0x13 => some answerLinesRead
  | 0x14 => some answerRequest
  | 0x15 => some answerSignOff
  | 0x16 => some answerStatus
  | 0x17 => some answerNotices
  | 0x18 => some answerReset
  | _ => none

/-- The judgement of a record or framing error, by R183's order. -/
def answerItem (item : RxItem) (p : Part) : Part × Reply :=
  match item with
  | .error cause => answerFrameError cause p
  | .frame kind payload =>
    match answerOfKind kind with
    | some f => answerCommand kind payload f p
    | none => answerUnknown kind payload p

/-- The receive buffer is interpreted as soon as the reply slot is empty (R182). The interpretation is one with what
emptied the slot or filled the buffer, so the buffer is free for the next byte after it. -/
def Part.interpretDue (p : Part) : Part :=
  match p.link.reply, p.link.buffer with
  | none, some item => ({ p with link.buffer := none } : Part).interpret item (answerItem item)
  | _, _ => p

end Sys2Proof.Machine
end

