-- ==== Sys2Proof/Machine/EventsLink.lean ====
section
/-! DEFINITION. The events of the serial link and the resets from outside: LRX_BYTE, LINK_GAP_EXPIRY, RECORD_SENT,
POWER_ON, RESET_LINE. A step whose condition does not hold does not occur: the state stays (log entry 1). -/

namespace Sys2Proof.Machine

/-- A byte received on LRX (R181). The record that it completes is interpreted at once when the reply slot is empty
(R182). -/
def execLrxByte (b : Byte) (s : State) : Host.Outcome State Fault Refusal :=
  .next (s.withPart (s.part.receive b).interpretDue)

/-- The 5 ms gap timer expires with the frame incomplete: framing error GAP (R181). -/
def execLinkGapExpiry (s : State) : Host.Outcome State Fault Refusal :=
  if s.part.link.gapTimer.isSome then .next (s.withPart (s.part.framingError .gap).interpretDue) else .next s

/-- A record has been sent, and LTX rests (R180): the reply slot is emptied when it was the reply, a scheduled reset takes effect, and the
transmitter takes the next record (R185, R194). With a record waiting in the receive buffer, the empty reply slot has it
interpreted first (R182); DESIGN CHOICE (log entry 35): its reply so goes ahead of the notices that wait. -/
def Part.recordSent (p : Part) : Part :=
  match p.link.tx with
  | .idle => p
  | .reply _ => ({ p with link.tx := .idle, link.ltx := ltxRest, link.reply := none } : Part).takeReset.interpretDue.finish
  | .notice _ => ({ p with link.tx := .idle, link.ltx := ltxRest } : Part).finish

def execRecordSent (s : State) : Host.Outcome State Fault Refusal := .next (s.withPart s.part.recordSent)

/-- Power-on (R195). -/
def execPowerOn (s : State) : Host.Outcome State Fault Refusal := .next (s.withPart s.part.resetWhole)

/-- The RESET line taken active (R195). -/
def execResetLine (s : State) : Host.Outcome State Fault Refusal := .next (s.withPart s.part.resetWhole)

end Sys2Proof.Machine
end

