-- ==== Sys2Proof/Machine/EventsTuning.lean ====
section
/-! DEFINITION. The events of the tuning unit (section 2.3): SHIFT_LATCH_DONE, LOCK_BLANK_END, LOCK, LOCK_WAIT_EXPIRY,
SETTLE_EXPIRY, and the outcomes they hand to the owners. -/

namespace Sys2Proof.Machine

/-- READY at the affiliation controller: HO_LISTEN with BEACON_WAIT (R126), or the end of HO_RETURN (R130). -/
def Part.affReady (p : Part) : Part :=
  match p.aff.machine with
  | .hoTune => { p with aff.machine := .hoListen, aff.hoTimer := some ⟨.beaconWait, p.params.beaconWaitMs⟩ }
  | .hoReturn => p.endReturn
  | _ => p

/-- LOCK_FAIL at the affiliation controller: failure LOCK (R126), or the end of HO_RETURN (R130). -/
def Part.affFailed (p : Part) : Part :=
  match p.aff.machine, p.aff.ctx with
  | .hoTune, some ctx => p.failHandover ctx .lock none 0
  | .hoReturn, _ => p.endReturn
  | _, _ => p

/-- READY is handed to the owner; after a retry the receiver becomes free (R31, R38). -/
def Part.handReady (owner : Owner) (p : Part) : Part :=
  match owner with
  | .scheduler => p.schedReady
  | .affiliation => p.affReady
  | .engine => p.engineReady.freeReceiver

/-- LOCK_FAIL is handed to the owner (R32, R37). -/
def Part.handFailed (owner : Owner) (p : Part) : Part :=
  match owner with
  | .scheduler => p.schedFailed
  | .affiliation => p.affFailed
  | .engine => p.freeReceiver

def Part.opReady (op : TuneOp) (p : Part) : Part := (p.endReady op).handReady op.owner

/-- The lock: SETTLING with its timer, or READY at once with SETTLE_MS at 0 (R31). -/
def Part.lockTaken (op : TuneOp) (p : Part) : Part :=
  if p.params.settleMs = 0 then p.opReady op
  else { p with tuning.op := some { op with phase := .settling, lockWait := none, settle := some p.params.settleMs } }

/-- The lock wait expires: LOCK_FAIL for an AWAY operation (R32), attempt 2 of a RETURN operation (R36), or the tune
fault, with the owner told before the engine (R37). A STEP round whose work or handover ends with the failed tune home
has ended before the freeze (R159). -/
def Part.lockFailed (op : TuneOp) (p : Part) : Part :=
  match op.kind with
  | .away => p.endFailed.handFailed op.owner
  | .ret =>
    if op.attempt = 1 then p.secondAttempt op
    else ((p.endFailed.markFault).handFailed op.owner).endStepRound.freezeTune

/-- The word has been shifted and TLE pulsed (R26). -/
def execShiftLatchDone (s : State) : Host.Outcome State Fault Refusal :=
  match s.part.tuning.op with
  | some op => if op.phase = .shifting then .next (s.withPart (s.part.latch op).finish) else .next s
  | none => .next s

/-- The end of the 0.5 ms blanking, with the level then on LOCK (R30). -/
def execLockBlankEnd (lockActive : Bool) (s : State) : Host.Outcome State Fault Refusal :=
  match s.part.tuning.op with
  | some op =>
    if op.phase = .blanking then
      if lockActive then .next (s.withPart (s.part.lockTaken op).finish)
      else .next (s.withPart { s.part with tuning.op := some { op with phase := .waiting } })
    else .next s
  | none => .next s

/-- LOCK found active in the lock wait, after the blanking; at any other time it has no effect (R30). -/
def execLock (s : State) : Host.Outcome State Fault Refusal :=
  match s.part.tuning.op with
  | some op => if op.phase = .waiting then .next (s.withPart (s.part.lockTaken op).finish) else .next s
  | none => .next s

/-- The lock wait timer expires with no lock (R32, R36, R37). -/
def execLockWaitExpiry (s : State) : Host.Outcome State Fault Refusal :=
  match s.part.tuning.op with
  | some op => if op.lockWait.isSome then .next (s.withPart (s.part.lockFailed op).finish) else .next s
  | none => .next s

/-- The settle timer expires (R31). -/
def execSettleExpiry (s : State) : Host.Outcome State Fault Refusal :=
  match s.part.tuning.op with
  | some op => if op.phase = .settling then .next (s.withPart (s.part.opReady op).finish) else .next s
  | none => .next s

end Sys2Proof.Machine
end

