-- ==== Sys2Proof/Machine/EventsMeasure.lean ====
section
/-! DEFINITION. The events of rounds and measurement (chapters 3, 5 and 10): ROUND_EXPIRY, SAMPLE_TIMER_EXPIRY,
RSSI_CONVERSION_DONE, LISTEN_EXPIRY, BATTERY_TIMER_EXPIRY, BATTERY_CONVERSION_DONE. -/

namespace Sys2Proof.Machine

/-- The round timer restarts at once from ROUND_MS and a round is made (R77). -/
def Part.roundExpiry (p : Part) : Part := ({ p with engine.roundTimer := some p.params.roundMs } : Part).round

def execRoundExpiry (s : State) : Host.Outcome State Fault Refusal :=
  if s.part.engine.state = .running && s.part.engine.roundTimer.isSome then
    .next (s.withPart s.part.roundExpiry.finish)
  else .next s

/-- The run in flight holds the converter and is in the given phase. -/
def Part.sampling (p : Part) (phase : SamplePhase) : Bool :=
  p.conv.state == .rssi && p.run.map SampleRun.phase == some phase

/-- SAMPLE_MS after the previous sample, the next one is taken (R43). -/
def execSampleTimerExpiry (s : State) : Host.Outcome State Fault Refusal :=
  if s.part.sampling .spacing then
    .next (s.withPart (s.part.mapRun (fun r => { r with phase := .converting })))
  else .next s

/-- An RSSI conversion gives its code (R60). -/
def execRssiConversionDone (code : Byte) (s : State) : Host.Outcome State Fault Refusal :=
  if s.part.sampling .converting then .next (s.withPart (s.part.takeSample code).finish) else .next s

/-- The listen timer expires: a failed visit when no beacon is noted (R50, R52); with one noted, the samples still
being taken bring the crediting. -/
def Part.listenExpiry (g : Gap) (p : Part) : Part :=
  if g.noted.isNone then p.failGap g true
  else { p with sched.gap := some { g with listenTimer := none } }

def execListenExpiry (s : State) : Host.Outcome State Fault Refusal :=
  match s.part.sched.gap with
  | some g => if g.listenTimer.isSome then .next (s.withPart (s.part.listenExpiry g).finish) else .next s
  | none => .next s

/-- The battery timer expires and a conversion is asked of the converter (R174, R176). -/
def execBatteryTimerExpiry (s : State) : Host.Outcome State Fault Refusal :=
  if s.part.lines.battTimer.isSome then
    .next (s.withPart ({ s.part with lines.battTimer := none } : Part).askBattery)
  else .next s

/-- A battery conversion ends: its code is judged unless the mode has left ANALOG (R174, R175), and the converter is
given on (R176). -/
def Part.batteryDone (judged : Bool) (code : Byte) (p : Part) : Part :=
  (if judged then p.judgeCode code else p).releaseConverter

def execBatteryConversionDone (code : Byte) (s : State) : Host.Outcome State Fault Refusal :=
  match s.part.conv.state with
  | .battery judged => .next (s.withPart (s.part.batteryDone judged code).finish)
  | _ => .next s

end Sys2Proof.Machine
end

