-- ==== Sys2Proof/Machine/EventsLines.lean ====
section
/-! DEFINITION. The events of the input lines (section 10.1): INPUT_EDGE and DEBOUNCE_EXPIRY. -/

namespace Sys2Proof.Machine

/-- The raw level of an input changes to the given one (R168); a level the pin already has is no change. -/
def execInputEdge (i : Input) (level : Bool) (s : State) : Host.Outcome State Fault Refusal :=
  if (s.part.lines.get i).raw = level then .next s else .next (s.withPart (s.part.edge i level).finish)

/-- The debounce timer of an input expires (R168). -/
def execDebounceExpiry (i : Input) (s : State) : Host.Outcome State Fault Refusal :=
  if (s.part.lines.get i).timer.isSome then .next (s.withPart (s.part.takeLevel i).finish) else .next s

end Sys2Proof.Machine
end

