-- ==== Sys2Proof/Machine/EventsHandover.lean ====
section
/-! DEFINITION. The events of supervision and handover (chapters 6 and 7): INTERVAL_EXPIRY, BEACON_WAIT_EXPIRY,
GRANT_WAIT_EXPIRY, TX_WAIT_EXPIRY. -/

namespace Sys2Proof.Machine

/-- The interval just ended is judged; then the timer starts again, or LOST is reported to the engine (R102, R105,
R108). -/
def Part.intervalExpiry (p : Part) : Part :=
  let p := p.judgeInterval (p.aff.serving.getD 0)
  if p.sup.state = .lost then p.reportLost else p.startInterval

def execIntervalExpiry (s : State) : Host.Outcome State Fault Refusal :=
  if s.part.sup.timer.isSome then .next (s.withPart s.part.intervalExpiry.finish) else .next s

/-- The handover timer runs as the given kind. -/
def Aff.timerIs (a : Aff) (kind : HoTimerKind) : Bool := a.hoTimer.map HoTimer.kind == some kind

/-- BEACON_WAIT expires: failure NO_BEACON (R126). -/
def Part.beaconWaitExpiry (p : Part) : Part :=
  match p.aff.ctx with
  | some ctx => p.failHandover ctx .noBeacon none 0
  | none => p

def execBeaconWaitExpiry (s : State) : Host.Outcome State Fault Refusal :=
  if s.part.aff.timerIs .beaconWait then .next (s.withPart s.part.beaconWaitExpiry.finish) else .next s

/-- GRANT_WAIT expires: another REGISTER below REG_TRIES, otherwise failure NO_GRANT (R127). -/
def Part.grantWaitExpiry (p : Part) : Part :=
  match p.aff.ctx with
  | some ctx => if ctx.attempts < p.params.regTries then p.enterSend ctx else p.failHandover ctx .noGrant none 0
  | none => p

def execGrantWaitExpiry (s : State) : Host.Outcome State Fault Refusal :=
  if s.part.aff.timerIs .grantWait then .next (s.withPart s.part.grantWaitExpiry.finish) else .next s

/-- TX_WAIT expires with the request outstanding, which ends NOT_SENT (R124). -/
def execTxWaitExpiry (s : State) : Host.Outcome State Fault Refusal :=
  match s.part.aff.tx with
  | some tx => if s.part.aff.txTimer.isSome then .next (s.withPart (s.part.endTx tx .notSent).finish) else .next s
  | none => .next s

end Sys2Proof.Machine
end

