-- ==== Sys2Proof/Machine/Dispatch.lean ====
section
/-! DEFINITION. The meaning of every command, one arm each. -/

namespace Sys2Proof.Machine

def exec (i : Instr) (s : State) : Host.Outcome State Fault Refusal :=
  match i with
  | .info p => Sys2Proof.Machine.execInfo p s
  | .paramSet p => Sys2Proof.Machine.execParamSet p s
  | .paramGet p => Sys2Proof.Machine.execParamGet p s
  | .identity p => Sys2Proof.Machine.execIdentity p s
  | .sitePut p => Sys2Proof.Machine.execSitePut p s
  | .siteDrop p => Sys2Proof.Machine.execSiteDrop p s
  | .siteGet p => Sys2Proof.Machine.execSiteGet p s
  | .siteList p => Sys2Proof.Machine.execSiteList p s
  | .run p => Sys2Proof.Machine.execRun p s
  | .halt p => Sys2Proof.Machine.execHalt p s
  | .step p => Sys2Proof.Machine.execStep p s
  | .cont p => Sys2Proof.Machine.execContinue p s
  | .watchSet p => Sys2Proof.Machine.execWatchSet p s
  | .watchClear p => Sys2Proof.Machine.execWatchClear p s
  | .move p => Sys2Proof.Machine.execMove p s
  | .airIn p => Sys2Proof.Machine.execAirIn p s
  | .airSent p => Sys2Proof.Machine.execAirSent p s
  | .linesSet p => Sys2Proof.Machine.execLinesSet p s
  | .linesRead p => Sys2Proof.Machine.execLinesRead p s
  | .request p => Sys2Proof.Machine.execRequest p s
  | .signOff p => Sys2Proof.Machine.execSignOff p s
  | .status p => Sys2Proof.Machine.execStatus p s
  | .notices p => Sys2Proof.Machine.execNotices p s
  | .reset p => Sys2Proof.Machine.execReset p s
  | .frameError cause => Sys2Proof.Machine.execFrameError cause s
  | .unknown kind p => Sys2Proof.Machine.execUnknown kind p s
  | .lrxByte b => Sys2Proof.Machine.execLrxByte b s
  | .linkGapExpiry => Sys2Proof.Machine.execLinkGapExpiry s
  | .recordSent => Sys2Proof.Machine.execRecordSent s
  | .powerOn => Sys2Proof.Machine.execPowerOn s
  | .resetLine => Sys2Proof.Machine.execResetLine s
  | .shiftLatchDone => Sys2Proof.Machine.execShiftLatchDone s
  | .lockBlankEnd active => Sys2Proof.Machine.execLockBlankEnd active s
  | .lock => Sys2Proof.Machine.execLock s
  | .lockWaitExpiry => Sys2Proof.Machine.execLockWaitExpiry s
  | .settleExpiry => Sys2Proof.Machine.execSettleExpiry s
  | .roundExpiry => Sys2Proof.Machine.execRoundExpiry s
  | .sampleTimerExpiry => Sys2Proof.Machine.execSampleTimerExpiry s
  | .rssiConversionDone code => Sys2Proof.Machine.execRssiConversionDone code s
  | .listenExpiry => Sys2Proof.Machine.execListenExpiry s
  | .batteryTimerExpiry => Sys2Proof.Machine.execBatteryTimerExpiry s
  | .batteryConversionDone code => Sys2Proof.Machine.execBatteryConversionDone code s
  | .inputEdge input level => Sys2Proof.Machine.execInputEdge input level s
  | .debounceExpiry input => Sys2Proof.Machine.execDebounceExpiry input s
  | .intervalExpiry => Sys2Proof.Machine.execIntervalExpiry s
  | .beaconWaitExpiry => Sys2Proof.Machine.execBeaconWaitExpiry s
  | .grantWaitExpiry => Sys2Proof.Machine.execGrantWaitExpiry s
  | .txWaitExpiry => Sys2Proof.Machine.execTxWaitExpiry s

end Sys2Proof.Machine
end

