-- ==== Sys2Proof/Safety.lean ====
section
/-! DEFINITION. The terms the statements use: when the part stands between two steps as every step leaves it, what a
reply does to it, how a list of commands runs, and what a sound site table, receiver and notice queue are. -/

namespace Sys2Proof.Machine

/-! ### Between two steps -/

/-- A STEP round in progress still has work or a handover of its own (R159). -/
def Part.stepRoundLive (p : Part) : Bool :=
  !p.engine.stepFlag || p.sched.work.isSome || (p.aff.ctx.map Context.inStep).getD false

/-- The transmitter is busy, or nothing waits for it (R185). -/
def Part.transmitterFed (p : Part) : Bool :=
  p.link.tx != .idle || (p.link.reply.isNone && p.link.notices.isEmpty)

/-- MUTE and TXINH stand as R39 and R117 give. -/
def Part.outputsDriven (p : Part) : Bool :=
  p.lines.mute == !(p.tuning.position == .home && p.aff.machine == .registered && p.aff.serving.isSome) &&
    p.lines.txinh == !p.aff.machine.atRest

/-- The part as every step leaves it: nothing that a step owes at its end is outstanding. -/
def Part.settledOutside (p : Part) : Bool := p.stepRoundLive && p.transmitterFed && p.outputsDriven

/-- A record that arrives is interpreted now: the receive buffer and the reply slot are empty (R182). -/
def Part.hears (p : Part) : Bool := p.settledOutside && p.link.buffer.isNone && p.link.reply.isNone

/-- What a reply does to the part: the receive buffer is empty, the reply stands in the reply slot, and an idle
transmitter sends it, its levels on LTX (R180, R182, R185). -/
def Part.replied (r : Reply) (p : Part) : Part :=
  { p with
    link.buffer := none
    link.reply := some r
    link.tx := if p.link.tx = .idle then .reply r.bytes else p.link.tx
    link.ltx := if p.link.tx = .idle then recordLevels r.bytes else p.link.ltx }

/-- The least and the greatest number of payload bytes a command takes after its tag, by its kind (R196). -/
def argumentBytes : Nat → Nat × Nat
  | 0x02 => (3, 3)
  | 0x03 => (1, 1)
  | 0x04 => (4, 4)
  | 0x05 => (5, 5)
  | 0x06 => (2, 2)
  | 0x07 => (3, 3)
  | 0x0D => (5, 5)
  | 0x0E => (1, 1)
  | 0x0F => (2, 2)
  | 0x10 => (3, 33)
  | 0x11 => (2, 2)
  | 0x12 => (5, 5)
  | 0x14 => (1, 1)
  | 0x17 => (2, 2)
  | 0x18 => (1, 1)
  | _ => (0, 0)

/-- A payload after the tag has a length its command takes (R183 step 4). -/
def argumentsFit (kind : Byte) (args : List Byte) : Bool :=
  decide ((argumentBytes kind.toNat).1 ≤ args.length) && decide (args.length ≤ (argumentBytes kind.toNat).2)

/-- An AIR IN with a tag and a frame, interpreted now. -/
structure TakesFrame (s : State) (tag : Byte) (args : List Byte) (f : AirFrame) : Prop where
  tagged : tag ≠ 0
  short : 3 ≤ args.length
  long : args.length ≤ 33
  parsed : parseAir args = some f
  heard : s.part.hears = true

/-! ### Rounds, tunes and handovers -/

/-- What the round update makes of a record, but for the confirmation (R78, R80). -/
def SiteRecord.RoundLater (r q : SiteRecord) : Prop :=
  q.site = r.site ∧ q.channel = r.channel ∧ q.origin = r.origin ∧ q.bias = r.bias ∧ q.level = r.level ∧
  q.load = r.load ∧ q.failures = r.failures ∧
  q.age = (if r.level.isSome then min 255 (r.age + 1) else 0) ∧ q.advAge = min 255 (r.advAge + 1) ∧
  q.bar = (match r.bar with
    | some b => if b.remaining ≤ 1 then none else some { b with remaining := b.remaining - 1 }
    | none => none)

/-- The confirmation of a record after the round update; the serving record and the target keep theirs (R78, R79). -/
def SiteRecord.confirmLater (life : Nat) (kept : Bool) (r : SiteRecord) : Option Nat :=
  match r.confirm with
  | some a => if kept = false ∧ life < min 255 (a + 1) then none else some (min 255 (a + 1))
  | none => none

/-- A record with a mean credited to it: outright the first time, through the filter afterwards (R51, R64, R65). -/
def SiteRecord.credited (ps : Params) (mean : Nat) (r : SiteRecord) : SiteRecord :=
  { r with
    level := some ⟨mean, match r.level with
      | none => 16 * mean
      | some l =>
        let d := 16 * (mean : Int) - l.f16
        (l.f16 + (d * (if 0 ≤ d then ps.kUp else ps.kDown)).tdiv 16).toNat⟩
    age := 0
    failures := 0 }

/-- MUTE at a level, with a change of it counted (log entry 20). -/
def Lines.withMute (on : Bool) (l : Lines) : Lines :=
  { l with mute := on, muteEdges := if l.mute = on then l.muteEdges else l.muteEdges + 1 }

/-- A tune operation as it starts: attempt 1, with its tuning word to be shifted (R26, R29). -/
def freshOp (ps : Params) (channel : Nat) (kind : TuneKind) (owner : Owner) : TuneOp where
  channel := channel
  kind := kind
  attempt := 1
  owner := owner
  phase := .shifting
  word := BitVec.ofNat 24 (ps.synPrefix * 1024 + channel)
  lockWait := none
  settle := none
  atLatch := .proceed

/-- The lines of the tuning link as a shift begins: TDAT carries the most significant bit of the word (R26; that they
stand so until the shift and latch are done is log entry 39). -/
def startPins (ps : Params) (channel : Nat) : TuningPins where
  tclk := false
  tdat := (BitVec.ofNat 24 (ps.synPrefix * 1024 + channel)).msb
  tle := false

/-- TDAT at each rising edge of TCLK, oldest first (R26). -/
def risingBits : List TuningPins → List Bool
  | a :: b :: rest => if !a.tclk && b.tclk then b.tdat :: risingBits (b :: rest) else risingBits (b :: rest)
  | _ => []

/-- A gap as it starts: its tune away under way, nothing sampled (chapter 3's introduction, R47, R55). -/
def freshGap (ps : Params) (position : Nat) (r : SiteRecord) (kind : GapKind) (fromPending inStep : Bool) : Gap where
  position := position
  site := r.site
  channel := r.channel
  kind := kind
  fromPending := fromPending
  phase := .tuneAway
  run := ⟨ps.samples, ps.sampleMs, 0, 0, .waiting⟩
  noted := none
  standing := true
  listenTimer := none
  inStep := inStep

/-- Upward from a pointer, position 23 followed by position 0, a position is the first of those that fit (R48, R55). -/
def FirstFrom (pointer : Nat) (fits : Nat → Prop) (position : Nat) : Prop :=
  position < 24 ∧ fits position ∧
    ∀ other, other < 24 → fits other → (position + 24 - pointer) % 24 ≤ (other + 24 - pointer) % 24

/-- A gap on its way home: what it held is done with (R49, R53). -/
def Gap.goneHome (g : Gap) : Gap :=
  { g with
    phase := .tuneHome, noted := none, listenTimer := none, run := ⟨g.run.count, g.run.spacing, 0, 0, .complete⟩ }

/-- A HOME gap in one of its phases, with its channel taken: the scheduler holds the receiver with no tune running,
away from the serving channel, and holds no converter (R33, R49, R50). -/
structure Part.MidGap (p : Part) (g : Gap) (home : Nat) : Prop where
  gap : p.sched.gap = some g
  ofHome : g.kind ≠ .hunt
  serving : p.servingChannel = some home
  holds : p.tuning.holder = some .scheduler
  quiet : p.tuning.op = none
  away : p.tuning.position ≠ .home
  unheld : p.conv.state ≠ .rssi ∧ p.conv.waiting ≠ some .rssi

/-- The part with its gap sent home: the tune to the serving channel is started (R49, R53). -/
def Part.sentHome (g : Gap) (home : Nat) (p : Part) : Part :=
  { p with
    sched.gap := some g.goneHome
    tuning.op := some (freshOp p.params home .ret .scheduler)
    tuning.pins := startPins p.params home
    tuning.tuned := none
    tuning.position := .away }

/-- The table with the record of a beacon's site confirmed and its load class taken, and the confirmation of the other
records on its channel, but for the serving one, gone (R7, R13). -/
def Part.confirmedBy (b : Beacon) (p : Part) : List (Option SiteRecord) :=
  p.table.map (Option.map (fun r =>
    if r.site = b.site then { r with confirm := some 0, load := some b.load }
    else if r.channel = b.channel ∧ p.aff.serving ≠ some r.site then { r with confirm := none }
    else r))

/-! ### Watches -/

/-- A watch matches a write (R164). -/
def Watch.Meets (w : Watch) (site : Nat) (source : WriteSource) : Prop :=
  w.mode ≠ .holdOnSelect ∧ (w.site = site ∨ w.site = 0) ∧ (w.source = some source ∨ w.source = none)

/-- The part FROZEN by a watch slot: rounds, round work and a STEP round have ended, and ENGINE_STATE is queued (R155,
R160). -/
def Part.heldBy (slot : Nat) (p : Part) : Part :=
  ({ p with
    engine.state := .frozen (.watch slot), engine.stepFlag := false, engine.roundTimer := none, sched.work := none } :
    Part).queueNotice (.engineState (.frozen (.watch slot)) .watch (some slot))

/-- A matched slot has answered a write that left a level: the report, and the freeze of a HOLD_ON_CHANGE (R164,
R165). -/
def Part.answeredBy (slot : Nat) (w : Watch) (site : Nat) (source : WriteSource) (level : Option Level) (p : Part) :
    Part :=
  let reported := p.queueNotice (.watchReport slot site source level)
  match w.mode with
  | .holdOnChange => reported.heldBy slot
  | _ => reported

/-- Both slots have answered a write in their order, as far as they match it: `done` holds of the part that the write
and the answers leave (R163 to R165). -/
def Part.Answers (p : Part) (site : Nat) (source : WriteSource) (level : Option Level) (written : Part)
    (done : Part → Prop) : Prop :=
  let unmet (watch : Option Watch) : Prop := ∀ w, watch = some w → ¬ w.Meets site source
  (unmet p.engine.watch0 → unmet p.engine.watch1 → done written) ∧
  (∀ w, p.engine.watch0 = some w → w.Meets site source → unmet p.engine.watch1 →
    done (written.answeredBy 0 w site source level)) ∧
  (∀ w, unmet p.engine.watch0 → p.engine.watch1 = some w → w.Meets site source →
    done (written.answeredBy 1 w site source level)) ∧
  (∀ v w, p.engine.watch0 = some v → v.Meets site source → p.engine.watch1 = some w → w.Meets site source →
    done ((written.answeredBy 0 v site source level).answeredBy 1 w site source level))

/-! ### Settings -/

/-- What only a host command of its own changes: parameters, identity, enable set, watches, and the configuration of the
inputs. -/
structure Part.SameSettings (p q : Part) : Prop where
  params : q.params = p.params
  identity : q.aff.identity = p.aff.identity
  enabled : q.link.enabled = p.link.enabled
  watch0 : q.engine.watch0 = p.engine.watch0
  watch1 : q.engine.watch1 = p.engine.watch1
  battMode : q.lines.battMode = p.lines.battMode
  inputs : ∀ i, (q.lines.get i).polarity = (p.lines.get i).polarity ∧ (q.lines.get i).report = (p.lines.get i).report

/-! ### Handovers in flight -/

/-- A handover that can go back is in flight: its controller holds the receiver with no tune running, away from the
serving site's channel (R125, R130). -/
structure Part.MidHandover (p : Part) (ctx : Context) (home : Nat) : Prop where
  context : p.aff.ctx = some ctx
  returns : ctx.canReturn = true
  serving : p.servingChannel = some home
  holds : p.tuning.holder = some .affiliation
  quiet : p.tuning.op = none
  away : p.tuning.position ≠ .home

/-- A failed handover goes back (R129, R130): the target's record is marked, the machine is in HO_RETURN with the tune
home started, and everything else stands. -/
structure Part.GoesBack (p : Part) (ctx : Context) (home : Nat) (mark : SiteRecord → SiteRecord) (q : Part) : Prop where
  table : q.table = p.table.map (Option.map (fun r => if r.site = ctx.target then mark r else r))
  aff : q.aff = { p.aff with machine := .hoReturn, hoTimer := none, registerDue := false }
  tuning : q.tuning =
    { p.tuning with
      op := some (freshOp p.params home .ret .affiliation), pins := startPins p.params home, tuned := none,
      holder := some .affiliation, position := .away }
  params : q.params = p.params
  sched : q.sched = p.sched
  engine : q.engine = p.engine
  sup : q.sup = p.sup
  lines : q.lines = { p.lines with mute := true, txinh := true }
  conv : q.conv = p.conv

/-- A notice of an enabled kind that finds room while the transmitter is busy stands at the back of the queue (R185,
R191). -/
def Part.Queues (p : Part) (n : Notice) (q : Part) : Prop :=
  p.link.tx ≠ .idle → p.link.notices.length < 16 → noticeEnabled p.link.enabled n = true →
    q.link.notices = p.link.notices ++ [⟨n, p.link.lost⟩] ∧ q.link.lost = false

/-- A frame that is discarded (R119, R120, R122): sent by a radio, a stale beacon, or one that is not for this radio
now. -/
def Part.Discards (p : Part) : AirFrame → Prop
  | .beacon b => p.tuning.tuned ≠ some b.channel
  | .grant site unit _ _ =>
    p.aff.identity.map Identity.unit ≠ some unit ∨ p.aff.ctx.map Context.target ≠ some site ∨
      (p.aff.machine ≠ .hoSend ∧ p.aff.machine ≠ .hoGrant)
  | .refuse site unit _ _ =>
    p.aff.identity.map Identity.unit ≠ some unit ∨ p.aff.ctx.map Context.target ≠ some site ∨
      (p.aff.machine ≠ .hoSend ∧ p.aff.machine ≠ .hoGrant)
  | .release site unit _ =>
    p.aff.identity.map Identity.unit ≠ some unit ∨ p.aff.serving ≠ some site ∨ p.aff.machine ≠ .registered ∨
      p.tuning.position ≠ .home
  | .rollCall site => p.aff.serving ≠ some site ∨ p.aff.machine ≠ .registered ∨ p.tuning.position ≠ .home
  | .statusQuery site unit =>
    p.aff.identity.map Identity.unit ≠ some unit ∨ p.aff.serving ≠ some site ∨ p.aff.machine ≠ .registered ∨
      p.tuning.position ≠ .home
  | .direct site kind address _ _ =>
    (match kind with
      | .unit => p.aff.identity.map Identity.unit
      | .group => p.aff.identity.map Identity.group) ≠ some address ∨
    p.aff.serving ≠ some site ∨ p.aff.machine ≠ .registered ∨ p.tuning.position ≠ .home
  | .register .. => True
  | .rollAnswer .. => True
  | .statusReport .. => True
  | .deregister .. => True

/-! ### Runs -/

/-- A list of commands, executed one after another up to the first that stops. -/
def runAll : List Instr → State → Host.Outcome State Fault Refusal
  | [], s => .next s
  | c :: cs, s =>
    match exec c s with
    | .next t => runAll cs t
    | .fault f => .fault f
    | .refused r => .refused r

/-! ### Sound parts -/

/-- The site IDs of the table, in ascending order of position. -/
def Part.siteIds (p : Part) : List Nat := p.occupied.map (fun x => x.2.site)

/-- 24 slots, and no site ID twice (R1). -/
def Part.tableSound (p : Part) : Bool := p.table.length == 24 && decide p.siteIds.Nodup

/-- With the receive buffer occupied the reply slot is full, and the receiver is in HUNT with its gap timer stopped
(R182). -/
def Part.receiverSound (p : Part) : Bool :=
  p.link.buffer.isNone || (p.link.reply.isSome && p.link.rx == .hunt && p.link.gapTimer.isNone)

/-- The notice queue holds at most 16 notices and TRANSMIT is enabled (R190, R191). -/
def Part.queueSound (p : Part) : Bool :=
  decide (p.link.notices.length ≤ 16) && p.link.enabled.getLsbD 4

/-- The fields of an air frame lie in their ranges (R119, R196). -/
def AirFrame.inRange : AirFrame → Bool
  | .beacon b =>
    siteOk b.site && channelOk b.channel && decide (b.load ≤ 3) && decide (b.cls ≤ 3) &&
      decide (b.neighbours.length ≤ 6) && b.neighbours.all (fun n => siteOk n.1 && channelOk n.2)
  | .grant site unit slot _ => siteOk site && decide (unit < 65536) && slot.all (fun n => decide (n ≤ 31))
  | .refuse site unit _ retry => siteOk site && decide (unit < 65536) && decide (retry < 256)
  | .release site unit retry => siteOk site && decide (unit < 65536) && decide (retry < 256)
  | .rollCall site => siteOk site
  | .statusQuery site unit => siteOk site && decide (unit < 65536)
  | .direct site _ address target channel =>
    siteOk site && decide (address < 65536) && siteOk target && channelOk channel
  | .register site unit group previous _ =>
    siteOk site && decide (unit < 65536) && decide (group < 65536) && decide (previous < 65536)
  | .rollAnswer site unit slot => siteOk site && decide (unit < 65536) && slot.all (fun n => decide (n ≤ 31))
  | .statusReport site unit _ level count =>
    siteOk site && decide (unit < 65536) && level.all (fun n => decide (n < 255)) && decide (count < 256)
  | .deregister site unit => siteOk site && decide (unit < 65536)

/-! ### The values of a reset (R25, R41, R59, R101, R115, R139, R143, R167, R179, R188, R195) -/

/-- The default column of R188, in the order of the table. -/
def defaultColumn : List Int :=
  [0, 5, 2, 1, 4, 1, 600, 2, 0, 16, 4, 8, 4, 8, 3, 400, 60, 50, 20, 150, 5, 0, 3, 8, 1] ++
  [1500, 500, 2, 1000, 10, 50, 30, 20, 5, 120, 6]

/-- What R170 and R179 give for one input after power-on; its raw level is the pin's. -/
def InputLine.fresh (x : InputLine) : Bool :=
  x.polarity == .activeHigh && !x.report && x.debounced.isNone && x.timer == some 5 && x.reference.isNone && !x.mark

/-- Every block as the spec leaves it after power-on; the raw levels of the pins and the model's own counter are not
among these. -/
structure Part.AsPoweredOn (p : Part) : Prop where
  params : allParams.map p.params.get = defaultColumn
  table : p.table = List.replicate 24 none
  tuner : p.tuning.op = none ∧ p.tuning.tuned = none ∧ p.tuning.position = .parked ∧ p.tuning.holder = none ∧
    p.tuning.waitSched = none ∧ p.tuning.waitAff = none ∧ p.tuning.retryWaiting = false ∧ p.tuning.fault = false ∧
    p.tuning.pins = ⟨false, false, false⟩ ∧ p.tuning.latched = none
  sched : p.sched.work = none ∧ p.sched.burst = none ∧ p.sched.gap = none ∧ p.sched.visitPtr = 0 ∧
    p.sched.huntPtr = 0 ∧ p.sched.conserve = 1
  engine : p.engine.state = .halted ∧ p.engine.stepFlag = false ∧ p.engine.continuePending = false ∧
    p.engine.watch0 = none ∧ p.engine.watch1 = none ∧ p.engine.roundTimer = none ∧ p.engine.cand = none ∧
    p.engine.holdoff = 0 ∧ p.engine.releaseOwed = false
  sup : p.sup.active = false ∧ p.sup.state = .healthy ∧ p.sup.cls = none ∧ p.sup.timer = none ∧ p.sup.fine = 3 ∧
    p.sup.coarse = 8 ∧ p.sup.excuse = false ∧ p.sup.pttNoted = false ∧ p.sup.gapNoted = false
  aff : p.aff.serving = none ∧ p.aff.slot = none ∧ p.aff.sense = none ∧ p.aff.identity = none ∧
    p.aff.machine = .none ∧ p.aff.ctx = none ∧ p.aff.hoTimer = none ∧ p.aff.tx = none ∧ p.aff.txTimer = none ∧
    p.aff.signingOff = false ∧ p.aff.request = false ∧ nextNumber p.aff.lastNumber = 1
  lines : p.lines.ptt.fresh = true ∧ p.lines.call.fresh = true ∧ p.lines.emerg.fresh = true ∧
    p.lines.batt.fresh = true ∧ p.lines.battMode = .digital ∧ p.lines.battery = .normal ∧
    p.lines.battTimer = none ∧ p.lines.mute = true ∧ p.lines.txinh = false
  conv : p.conv.state = .idle ∧ p.conv.waiting = none
  link : p.link.rx = .hunt ∧ p.link.gapTimer = none ∧ p.link.buffer = none ∧ p.link.reply = none ∧
    p.link.notices = [] ∧ p.link.enabled = 0x1FFF ∧ p.link.lost = false ∧ p.link.tx = .idle ∧ p.link.ltx = [true] ∧
    p.link.resetDue = none

end Sys2Proof.Machine
end

