-- ==== Sys2Proof/Certificates/Slice0/Obligations.lean ====
section
/-! DEFINITION. The statements about the Pelgram 620: what each command does, what it leaves alone, and what every
step keeps. `hears` says that the part stands as every step leaves it and that the record can be interpreted now;
`replied` says what a reply does to the link (Sys2Proof/Safety.lean). -/

section

open Sys2Proof Sys2Proof.Machine

/-! ### Steps, resets and the link -/

/-- A step takes the command at the front of the queue. Model's choice (log entries 1 and 3): on an empty queue the
block idles. -/
def Obligations.StepTakesFrontCommandOrIdles : Prop :=
  (∀ (c : Instr) (rest : List Instr) (p : Part), step ⟨p, c :: rest⟩ = exec c ⟨p, rest⟩) ∧
  ∀ p : Part, step ⟨p, []⟩ = .next ⟨p, []⟩

/-- No command stops the part, and none touches the commands still waiting. -/
def Obligations.EveryCommandCompletes : Prop :=
  ∀ (c : Instr) (s : State), ∃ t, exec c s = .next t ∧ t.pending = s.pending

/-- The reset values the spec gives, chapter by chapter: in the state after power-on, and after POWER_ON and the RESET
line, which have the same effect whatever the part was doing; the pins keep their levels. -/
def Obligations.PowerOnAndResetLineReset : Prop :=
  State.reset.part.AsPoweredOn ∧
  ∀ s : State, ∃ t, exec .powerOn s = .next t ∧ exec .resetLine s = .next t ∧ t.part.AsPoweredOn ∧
    t.pending = s.pending ∧ ∀ i, (t.part.lines.get i).raw = (s.part.lines.get i).raw

/-- R186. -/
def Obligations.InfoRepliesAndChangesNothing : Prop :=
  ∀ (s : State) (tag : Byte), tag ≠ 0 → s.part.hears = true →
    exec (.info [tag]) s =
      .next (s.withPart (s.part.replied ⟨0x81, tag, .ok, [0x3A, 0x17, 0x02, 0x6C, 0x01]⟩))

/-- R183, steps 1 to 4: a record refused there has no effect beyond its reply. -/
def Obligations.RecordsJudgedInOrder : Prop :=
  (∀ (cause : FrameCause) (s : State), s.part.hears = true →
    exec (.frameError cause) s =
      .next (s.withPart (s.part.replied ⟨0x80, 0, .frameError,
        [match cause with | .gap => 0 | .length => 1 | .check => 2]⟩))) ∧
  (∀ (kind : Byte) (payload : List Byte) (s : State), isCommandKind kind = false →
    s.part.hears = true →
    rowOfRecord kind payload = .unknown kind payload ∧
    exec (.unknown kind payload) s =
      .next (s.withPart (s.part.replied ⟨0x80, payload.headD 0, .unknown, [kind]⟩))) ∧
  (∀ (kind : Byte) (payload : List Byte) (s : State), isCommandKind kind = true → payload.headD 0 = 0 →
    s.part.hears = true →
    exec (rowOfRecord kind payload) s =
      .next (s.withPart (s.part.replied ⟨kind + 0x80, 0, .badArg, []⟩))) ∧
  (∀ (kind tag : Byte) (args : List Byte) (s : State), isCommandKind kind = true → tag ≠ 0 →
    argumentsFit kind args = false → s.part.hears = true →
    exec (rowOfRecord kind (tag :: args)) s =
      .next (s.withPart (s.part.replied ⟨kind + 0x80, tag, .badArg, []⟩)))

/-- R182 with log entries 2 and 35: with the reply slot full a record waits in the receive buffer; one that finds another
record waiting is lost; the one that waits is interpreted as the last byte of the reply has been sent, before anything
else is taken for transmission. A framing error waits and is judged in the same way. -/
def Obligations.RecordsWaitForTheReplySlot : Prop :=
  ∀ (item : RxItem) (s : State),
    let row := match item with
      | .frame kind payload => rowOfRecord kind payload
      | .error cause => .frameError cause
    (s.part.link.buffer = none → s.part.link.reply.isSome = true →
      exec row s =
        .next (s.withPart { s.part with
          link.buffer := some item, link.rx := .hunt, link.gapTimer := none })) ∧
    (s.part.link.buffer.isSome = true → exec row s = .next s) ∧
    (∀ bytes, s.part.link.buffer = some item → s.part.link.tx = .reply bytes → s.part.link.resetDue = none →
      exec .recordSent s =
        exec row (s.withPart { s.part with link.buffer := none, link.reply := none, link.tx := .idle, link.ltx := [true] }))

/-- R181's receiver table and its gap timer. R182: what arrives whole, a frame or a framing error, is interpreted as the
command of its kind at once, or waits as that command does; with the receive buffer occupied every byte is discarded.
R181 to R183: the gap timer's expiry leaves HUNT with the reply FRAME_ERROR GAP, or with the framing error waiting for the
reply slot. Model's choice (log entry 1): the expiry of a stopped gap timer does not occur, and changes nothing. -/
def Obligations.ReceiverFollowsItsTable : Prop :=
  ∀ (b : Byte) (s : State),
    let hunting : State := s.withPart { s.part with link.rx := .hunt, link.gapTimer := none }
    (s.part.link.buffer.isSome = true → s.part.receiverSound = true → exec (.lrxByte b) s = .next s) ∧
    (s.part.link.buffer = none →
      (s.part.link.rx = .hunt →
        exec (.lrxByte b) s =
          if b = 0x7E then .next (s.withPart { s.part with link.rx := .length, link.gapTimer := some 5 })
          else .next s) ∧
      (s.part.link.rx = .length →
        exec (.lrxByte b) s =
          if 1 ≤ b.toNat ∧ b.toNat ≤ 64 then
            .next (s.withPart { s.part with link.rx := .body b.toNat [], link.gapTimer := some 5 })
          else exec (.frameError .length) hunting) ∧
      (∀ len bytes, s.part.link.rx = .body len bytes → bytes.length < len →
        exec (.lrxByte b) s =
          .next (s.withPart { s.part with link.rx := .body len (bytes ++ [b]), link.gapTimer := some 5 })) ∧
      (∀ len kind payload, s.part.link.rx = .body len (kind :: payload) → (kind :: payload).length = len →
        exec (.lrxByte b) s =
          if BitVec.ofNat 8 len + ((kind :: payload).foldr (· + ·) 0) + b = 0 then
            exec (rowOfRecord kind payload) hunting
          else exec (.frameError .check) hunting) ∧
      (s.part.link.gapTimer.isSome = true →
        exec .linkGapExpiry s = exec (.frameError .gap) hunting ∧
        (s.part.hears = true →
          exec .linkGapExpiry s = .next (s.withPart (hunting.part.replied ⟨0x80, 0, .frameError, [0]⟩))) ∧
        (s.part.link.reply.isSome = true →
          exec .linkGapExpiry s = .next (s.withPart { hunting.part with link.buffer := some (.error .gap) })))) ∧
    (s.part.link.gapTimer = none → exec .linkGapExpiry s = .next s)

/-- R180, R181, R182: the bytes of any record, taken one after another from HUNT, do exactly what the command of its kind
and payload does. -/
def Obligations.RecordOnTheWireIsReceived : Prop :=
  ∀ (s : State) (kind : Byte) (payload : List Byte), payload.length ≤ 63 →
    s.part.link.rx = .hunt → s.part.link.gapTimer = none → s.part.link.buffer = none →
    runAll ((recordBytes kind payload).map .lrxByte) s = exec (rowOfRecord kind payload) s

/-- R119, R196: the layouts of the air frames are read back as they are written. Model's choice (log entry 15): unit
addresses and levels are read at every value. R119: what is read is a frame whose fields all lie in their ranges, and
whose bytes are those read, but for the unnamed flag bits of a STATUS REPORT (kind 0x23). -/
def Obligations.AirFramesReadBack : Prop :=
  (∀ f : AirFrame, f.inRange = true → parseAir f.bytes = some f) ∧
  ∀ (bytes : List Byte) (f : AirFrame), parseAir bytes = some f →
    f.inRange = true ∧ (bytes.headD 0 ≠ 0x23 → f.bytes = bytes)

/-- R185: at the end of a record the transmitter takes the reply of the reply slot, otherwise the oldest notice, which
leaves the queue; the reply slot is emptied when its reply has been sent. R180: LTX carries the record's bytes one after
another, each in ten bit times with its 8 data bits least significant first and no parity, and rests high. A record waiting
in the receive buffer comes before the notices (RecordsWaitForTheReplySlot, log entry 35). Model's choices: with an idle
transmitter the end of a record does not occur, and nothing changes (log entry 1); the levels of the start bit and the stop
bit (log entry 43). -/
def Obligations.TransmitterTakesNextRecord : Prop :=
  (∀ (b : Byte) (bytes : List Byte), ∃ data : List Bool,
    recordLevels (b :: bytes) = [false] ++ data ++ [true] ++ recordLevels bytes ∧ data.length = 8 ∧
    ∀ i, i < 8 → data[i]? = some (b.getLsbD i)) ∧
  recordLevels [] = [] ∧
  ∀ (s : State) (bytes : List Byte), s.part.stepRoundLive = true → s.part.outputsDriven = true →
    s.part.link.resetDue = none →
    (s.part.link.tx = .idle → exec .recordSent s = .next s) ∧
    (s.part.link.tx = .notice bytes → ∀ r, s.part.link.reply = some r →
      exec .recordSent s = .next (s.withPart { s.part with
        link.tx := .reply r.bytes, link.ltx := recordLevels r.bytes })) ∧
    (s.part.link.tx = .notice bytes → s.part.link.reply = none → ∀ q qs, s.part.link.notices = q :: qs →
      exec .recordSent s = .next (s.withPart { s.part with
        link.tx := .notice q.bytes, link.ltx := recordLevels q.bytes, link.notices := qs })) ∧
    (s.part.link.tx = .notice bytes → s.part.link.reply = none → s.part.link.notices = [] →
      exec .recordSent s = .next (s.withPart { s.part with link.tx := .idle, link.ltx := [true] })) ∧
    (s.part.link.buffer = none → s.part.link.tx = .reply bytes → ∀ q qs, s.part.link.notices = q :: qs →
      exec .recordSent s =
        .next (s.withPart { s.part with
          link.tx := .notice q.bytes, link.ltx := recordLevels q.bytes, link.notices := qs, link.reply := none })) ∧
    (s.part.link.buffer = none → s.part.link.tx = .reply bytes → s.part.link.notices = [] →
      exec .recordSent s =
        .next (s.withPart { s.part with link.tx := .idle, link.ltx := [true], link.reply := none }))

/-- R191 to R193: a notice is queued, not queued, lost, or takes the place of another. -/
def Obligations.NoticeQueueRules : Prop :=
  ∀ (n : Notice) (p : Part),
    (noticeEnabled p.link.enabled n = false → p.queueNotice n = p) ∧
    (noticeEnabled p.link.enabled n = true → p.link.notices.length < 16 →
      p.queueNotice n =
        { p with link.notices := p.link.notices ++ [⟨n, p.link.lost⟩], link.lost := false }) ∧
    (noticeEnabled p.link.enabled n = true → 16 ≤ p.link.notices.length → n.isTransmit = false →
      p.queueNotice n = { p with link.lost := true }) ∧
    (∀ older newer q, p.link.notices = older ++ q :: newer → 16 ≤ p.link.notices.length →
      n.isTransmit = true → q.notice.isTransmit = false → (∀ x ∈ newer, x.notice.isTransmit = true) →
      p.queueNotice n =
        { p with link.notices := older ++ newer ++ [⟨n, true⟩], link.lost := false })

/-! ### Parameters, identity and the link's own commands -/

/-- R187, R188, R110. Model's choice (log entry 34): a value that was held replies CLAMPED also where the held value is
the one stored before. -/
def Obligations.ParametersSetAndReported : Prop :=
  (∀ (s : State) (tag v1 v0 : Byte) (q : Param), tag ≠ 0 →
    s.part.hears = true →
    let held := clampInt (s16 v1 v0) q.lo q.hi
    let ps := s.part.params.set q held
    exec (.paramSet [tag, byte q.code, v1, v0]) s =
      .next (s.withPart (({ s.part with
        params := ps
        sup.fine := if q = .fadeCount then min s.part.sup.fine ps.fadeCount else s.part.sup.fine
        sup.coarse := if q = .lostCount then min s.part.sup.coarse ps.lostCount else s.part.sup.coarse } :
          Part).replied
        ⟨0x82, tag, if held = s16 v1 v0 then .ok else .clamped, byte q.code :: signedBytes16 held⟩))) ∧
  (∀ (s : State) (tag : Byte) (q : Param), tag ≠ 0 → s.part.hears = true →
    exec (.paramGet [tag, byte q.code]) s =
      .next (s.withPart (s.part.replied
        ⟨0x83, tag, .ok, byte q.code :: signedBytes16 (s.part.params.get q)⟩))) ∧
  (∀ (s : State) (tag id v1 v0 : Byte), tag ≠ 0 → (∀ q : Param, byte q.code ≠ id) →
    (s.part.hears = true →
      exec (.paramSet [tag, id, v1, v0]) s = .next (s.withPart (s.part.replied ⟨0x82, tag, .badArg, []⟩))) ∧
    (s.part.hears = true →
      exec (.paramGet [tag, id]) s = .next (s.withPart (s.part.replied ⟨0x83, tag, .badArg, []⟩)))) ∧
  (∀ (ps : Params) (q : Param) (v : Int), q.lo ≤ v → v ≤ q.hi →
    (ps.set q v).get q = v ∧ ∀ q', q' ≠ q → (ps.set q v).get q' = ps.get q')

/-- R118. The order of its two refusals is left open by the spec (log entry 21): the statement takes each alone. -/
def Obligations.IdentityTakenOnlyInNone : Prop :=
  ∀ (s : State) (tag u1 u0 g1 g0 : Byte), tag ≠ 0 →
    s.part.hears = true →
    (s.part.aff.machine = .none → unitOk (u16 u1 u0) = true → groupOk (u16 g1 g0) = true →
      exec (.identity [tag, u1, u0, g1, g0]) s =
        .next (s.withPart (({ s.part with aff.identity := some ⟨u16 u1 u0, u16 g1 g0⟩ } : Part).replied
          ⟨0x84, tag, .ok, []⟩))) ∧
    (s.part.aff.machine = .none → ¬ (unitOk (u16 u1 u0) = true ∧ groupOk (u16 g1 g0) = true) →
      exec (.identity [tag, u1, u0, g1, g0]) s =
        .next (s.withPart (s.part.replied ⟨0x84, tag, .badArg, []⟩))) ∧
    (s.part.aff.machine ≠ .none → unitOk (u16 u1 u0) = true → groupOk (u16 g1 g0) = true →
      exec (.identity [tag, u1, u0, g1, g0]) s =
        .next (s.withPart (s.part.replied ⟨0x84, tag, .state, []⟩)))

/-- R189, R196: the 18 bytes of STATUS; nothing changes. -/
def Obligations.StatusReportsAndChangesNothing : Prop :=
  ∀ (s : State) (tag : Byte), tag ≠ 0 → s.part.hears = true →
    exec (.status [tag]) s =
      .next (s.withPart (s.part.replied ⟨0x96, tag, .ok,
        [byte s.part.engine.state.code,
         (match s.part.engine.state with | .frozen (.watch _) => 1 | .frozen .tune => 2 | _ => 0),
         (match s.part.engine.state with | .frozen (.watch slot) => byte slot | _ => 0),
         byte ((if s.part.engine.stepFlag then 1 else 0) + (if s.part.engine.continuePending then 2 else 0)),
         byte s.part.aff.machine.code,
         byte (s.part.aff.serving.getD 0 / 256), byte (s.part.aff.serving.getD 0),
         byte (s.part.sup.state.code + (if s.part.sup.active then 0 else 128)),
         byte ((s.part.engine.cand.map Candidate.site).getD 0 / 256),
         byte ((s.part.engine.cand.map Candidate.site).getD 0),
         byte ((s.part.engine.cand.map Candidate.count).getD 0),
         byte ((s.part.engine.cand.map (fun c => c.cause.code)).getD 255),
         byte s.part.engine.holdoff, byte s.part.tuning.position.code, byte s.part.lines.battery.code,
         (if s.part.aff.request then 1 else 0),
         byte ((s.part.aff.tx.map (fun t => t.kind.code)).getD 0),
         (if s.part.aff.identity.isSome then 1 else 0)]⟩))

/-- R190: the enable set in force is the command's with the TRANSMIT bit set, and nothing else changes. -/
def Obligations.NoticesSetsTheEnableSet : Prop :=
  ∀ (s : State) (tag e1 e0 : Byte), tag ≠ 0 → s.part.hears = true →
    (u16 e1 e0 < 8192 → ∃ e : BitVec 16,
      (∀ n, n < 16 → e.getLsbD n = (decide (n = 4) || (BitVec.ofNat 16 (u16 e1 e0)).getLsbD n)) ∧
      exec (.notices [tag, e1, e0]) s =
        .next (s.withPart (({ s.part with link.enabled := e } : Part).replied
          ⟨0x97, tag, .ok, [byte (e.toNat / 256), byte e.toNat]⟩))) ∧
    (8192 ≤ u16 e1 e0 →
      exec (.notices [tag, e1, e0]) s = .next (s.withPart (s.part.replied ⟨0x97, tag, .badArg, []⟩)))

/-- R194: RESET is scheduled with its reply, and a scope of neither value is refused. -/
def Obligations.ResetIsScheduled : Prop :=
  ∀ (s : State) (tag scope : Byte), tag ≠ 0 → s.part.hears = true →
    (∀ sc, scope = (match sc with | Scope.engine => 0 | Scope.all => 1) →
      exec (.reset [tag, scope]) s =
        .next (s.withPart (({ s.part with link.resetDue := some sc } : Part).replied ⟨0x98, tag, .ok, []⟩))) ∧
    (2 ≤ scope.toNat →
      exec (.reset [tag, scope]) s = .next (s.withPart (s.part.replied ⟨0x98, tag, .badArg, []⟩)))

/-- R194 and the reset rule of each chapter: when the last byte of the RESET reply has been sent, the reset takes
effect, which leaves the state `t`; then a record waiting in the receive buffer is interpreted, or the transmitter takes
the next notice. RESET ENGINE keeps PINNED records as at creation, the parameters, the identity, the watches, the inputs,
the enable set and the notices, with ENGINE_STATE HALTED behind them unless the engine was HALTED; a battery conversion
under way or waiting is kept, and one that waited for a run of samples is taken. RESET ALL keeps the request number and
the receiver's side of the link. Model's choices: the record that waits goes first (log entry 35); RESET ENGINE clears a
REGISTER or DEREGISTER that waits (log entry 14); the count of MUTE's changes (log entry 20). -/
def Obligations.ResetTakesEffectWhenSent : Prop :=
  ∀ (s : State) (bytes : List Byte), s.part.link.tx = .reply bytes →
    let goesOn (t : State) : Prop :=
      t.pending = s.pending ∧ t.part.link.buffer = none ∧ t.part.link.reply = none ∧ t.part.link.tx = .idle ∧
      t.part.link.ltx = [true] ∧ t.part.link.resetDue = none ∧
      exec .recordSent s =
        (match s.part.link.buffer with
        | none => .next (t.withPart t.part.startSending)
        | some (.frame kind payload) => exec (rowOfRecord kind payload) t
        | some (.error cause) => exec (.frameError cause) t)
    (s.part.link.resetDue = some .engine → ∃ t, goesOn t ∧
      (∀ i, t.part.slotAt i = (s.part.slotAt i).bind (fun r =>
        if r.origin = .pinned then
          some { r with level := none, age := 0, confirm := none, load := none, bar := none, failures := 0, advAge := 0 }
        else none)) ∧
      t.part.params = s.part.params ∧ t.part.aff.identity = s.part.aff.identity ∧
      t.part.aff.lastNumber = s.part.aff.lastNumber ∧
      t.part.engine.watch0 = s.part.engine.watch0 ∧ t.part.engine.watch1 = s.part.engine.watch1 ∧
      t.part.engine.state = .halted ∧ t.part.engine.stepFlag = false ∧ t.part.engine.continuePending = false ∧
      t.part.engine.roundTimer = none ∧ t.part.engine.cand = none ∧ t.part.engine.holdoff = 0 ∧
      t.part.engine.releaseOwed = false ∧
      t.part.tuning.op = none ∧ t.part.tuning.tuned = none ∧ t.part.tuning.position = .parked ∧
      t.part.tuning.holder = none ∧ t.part.tuning.fault = false ∧ t.part.tuning.waitSched = none ∧
      t.part.tuning.waitAff = none ∧ t.part.tuning.retryWaiting = false ∧
      t.part.tuning.pins = ⟨false, false, false⟩ ∧ t.part.tuning.latched = none ∧
      t.part.sched.work = none ∧ t.part.sched.burst = none ∧ t.part.sched.gap = none ∧
      t.part.sched.visitPtr = 0 ∧ t.part.sched.huntPtr = 0 ∧ t.part.sched.conserve = 1 ∧
      t.part.aff.serving = none ∧ t.part.aff.machine = .none ∧ t.part.aff.ctx = none ∧ t.part.aff.tx = none ∧
      t.part.aff.slot = none ∧ t.part.aff.sense = none ∧ t.part.aff.signingOff = false ∧
      t.part.aff.request = false ∧ t.part.aff.hoTimer = none ∧ t.part.aff.txTimer = none ∧
      t.part.aff.registerDue = false ∧ t.part.aff.deregisterDue = false ∧
      t.part.sup.active = false ∧ t.part.sup.state = .healthy ∧ t.part.sup.timer = none ∧
      t.part.sup.fine = s.part.params.fadeCount ∧ t.part.sup.coarse = s.part.params.lostCount ∧
      t.part.sup.cls = none ∧ t.part.sup.excuse = false ∧ t.part.sup.pttNoted = false ∧ t.part.sup.gapNoted = false ∧
      (s.part.conv.state ≠ .rssi →
        t.part.conv.state = s.part.conv.state ∧
        t.part.conv.waiting = (if s.part.conv.waiting = some .battery then some .battery else none) ∧
        t.part.lines = { s.part.lines.withMute true with txinh := false }) ∧
      (s.part.conv.state = .rssi →
        t.part.conv.waiting = none ∧
        (s.part.conv.waiting ≠ some .battery → t.part.conv.state = .idle ∧
          t.part.lines = { s.part.lines.withMute true with txinh := false }) ∧
        (s.part.conv.waiting = some .battery → t.part.conv.state = .battery true ∧
          t.part.lines = { s.part.lines.withMute true with txinh := false, battTimer := some 1000 })) ∧
      t.part.link =
        (let kept : Part := { s.part with
          link.tx := .idle, link.ltx := [true], link.reply := none, link.buffer := none, link.resetDue := none }
        if s.part.engine.state = .halted then kept.link
        else (kept.queueNotice (.engineState .halted .reset none)).link)) ∧
    (s.part.link.resetDue = some .all → ∃ t, ∃ q : Part, goesOn t ∧ q.AsPoweredOn ∧
      t.part = ({ q with
        aff.lastNumber := s.part.aff.lastNumber
        link.rx := s.part.link.rx
        link.gapTimer := s.part.link.gapTimer } : Part))

/-! ### The site table -/

/-- R3, R16, R17: a taken SITE PUT for an unknown site fills the lowest empty slot, or the slot freed by eviction. -/
def Obligations.SitePutCreatesARecord : Prop :=
  ∀ (s : State) (tag s1 s0 c1 c0 b : Byte) (i : Nat), tag ≠ 0 →
    s.part.hears = true → s.part.tableSound = true →
    siteOk (u16 s1 s0) = true → channelOk (u16 c1 c0) = true → s.part.record (u16 s1 s0) = none →
    (s.part.lowestEmpty = some i ∨
      (s.part.lowestEmpty = none ∧ ∃ v, s.part.victim [] = some (i, v))) →
    ∃ t, exec (.sitePut [tag, s1, s0, c1, c0, b]) s = .next t ∧
      t.part.table = s.part.table.set i (some
        { site := u16 s1 s0, channel := u16 c1 c0, origin := .pinned, bias := clampInt (s8 b) (-40) 40,
          level := none, age := 0, confirm := none, load := none, bar := none, failures := 0, advAge := 0 }) ∧
      t.part.link.reply = some ⟨0x85, tag,
        if clampInt (s8 b) (-40) 40 = s8 b then .ok else .clamped, [signedByte (clampInt (s8 b) (-40) 40)]⟩ ∧
      t.part.params = s.part.params ∧ t.part.tuning = s.part.tuning ∧ t.part.sup = s.part.sup ∧
      t.part.aff = s.part.aff ∧ t.part.lines = s.part.lines ∧ t.part.conv = s.part.conv

/-- R16, R18: a taken SITE PUT for a site in the table updates the record in its slot; a differing channel clears
level, age, confirmation, bar and failures. -/
def Obligations.SitePutUpdatesARecord : Prop :=
  ∀ (s : State) (tag s1 s0 c1 c0 b : Byte) (i : Nat) (r : SiteRecord), tag ≠ 0 →
    s.part.hears = true → s.part.tableSound = true →
    siteOk (u16 s1 s0) = true → channelOk (u16 c1 c0) = true → s.part.slotAt i = some r → r.site = u16 s1 s0 →
    (r.channel = u16 c1 c0 ∨ (s.part.aff.serving ≠ some r.site ∧ s.part.target ≠ some r.site)) →
    ∃ t, exec (.sitePut [tag, s1, s0, c1, c0, b]) s = .next t ∧
      t.part.table = s.part.table.set i (some
        (if r.channel = u16 c1 c0 then { r with origin := .pinned, bias := clampInt (s8 b) (-40) 40 }
         else { r with
          origin := .pinned, bias := clampInt (s8 b) (-40) 40, channel := u16 c1 c0, level := none, age := 0,
          confirm := none, bar := none, failures := 0 })) ∧
      t.part.link.reply = some ⟨0x85, tag,
        if clampInt (s8 b) (-40) 40 = s8 b then .ok else .clamped, [signedByte (clampInt (s8 b) (-40) 40)]⟩ ∧
      t.part.params = s.part.params ∧ t.part.tuning = s.part.tuning ∧ t.part.sup = s.part.sup ∧
      t.part.aff = s.part.aff ∧ t.part.lines = s.part.lines ∧ t.part.conv = s.part.conv

/-- R19: a taken SITE DROP empties the slot and clears a pending candidate it was. -/
def Obligations.SiteDropEmptiesTheSlot : Prop :=
  ∀ (s : State) (tag s1 s0 : Byte) (i : Nat) (r : SiteRecord), tag ≠ 0 →
    s.part.hears = true → s.part.tableSound = true →
    siteOk (u16 s1 s0) = true → s.part.slotAt i = some r → r.site = u16 s1 s0 →
    s.part.aff.serving ≠ some r.site → s.part.target ≠ some r.site →
    ∃ t, exec (.siteDrop [tag, s1, s0]) s = .next t ∧
      t.part.table = s.part.table.set i none ∧
      t.part.engine.cand =
        (if s.part.engine.cand.map Candidate.site = some r.site then none else s.part.engine.cand) ∧
      t.part.link.reply = some ⟨0x86, tag, .ok, []⟩ ∧ t.part.link.notices = s.part.link.notices ∧
      t.part.engine.watch0 = s.part.engine.watch0 ∧ t.part.engine.watch1 = s.part.engine.watch1 ∧
      t.part.engine.state = s.part.engine.state ∧ t.part.sched.visitPtr = s.part.sched.visitPtr ∧
      t.part.sched.huntPtr = s.part.sched.huntPtr ∧ t.part.sched.work = s.part.sched.work ∧
      t.part.params = s.part.params ∧ t.part.tuning = s.part.tuning ∧ t.part.sup = s.part.sup ∧
      t.part.aff = s.part.aff ∧ t.part.lines = s.part.lines ∧ t.part.conv = s.part.conv

/-- The check tables of R16 and R19: the first failing check gives the reply, and nothing else changes. -/
def Obligations.SiteCommandsRefusedInOrder : Prop :=
  (∀ (s : State) (tag s1 s0 c1 c0 b : Byte) (code : ReplyCode), tag ≠ 0 →
    s.part.hears = true →
    (if ¬ (siteOk (u16 s1 s0) = true ∧ channelOk (u16 c1 c0) = true) then code = .badArg
     else match s.part.record (u16 s1 s0) with
      | some r =>
        r.channel ≠ u16 c1 c0 ∧
          (if s.part.aff.serving = some (u16 s1 s0) then code = .state
           else s.part.target = some (u16 s1 s0) ∧ code = .busy)
      | none => s.part.lowestEmpty = none ∧ s.part.victim [] = none ∧ code = .tableFull) →
    exec (.sitePut [tag, s1, s0, c1, c0, b]) s = .next (s.withPart (s.part.replied ⟨0x85, tag, code, []⟩))) ∧
  (∀ (s : State) (tag s1 s0 : Byte) (code : ReplyCode), tag ≠ 0 →
    s.part.hears = true →
    (if ¬ siteOk (u16 s1 s0) = true then code = .badArg
     else if s.part.record (u16 s1 s0) = none then code = .notFound
     else if s.part.aff.serving = some (u16 s1 s0) then code = .state
     else s.part.target = some (u16 s1 s0) ∧ code = .busy) →
    exec (.siteDrop [tag, s1, s0]) s = .next (s.withPart (s.part.replied ⟨0x86, tag, code, []⟩)))

/-- R20, R196: the 19 bytes of a site record, selected by site ID (0) or by position (1). R21, R196: SITE LIST gives the
count, one occupancy bit for each position, and the site IDs in ascending order of position. Neither changes
anything. -/
def Obligations.SiteGetAndSiteListReport : Prop :=
  (∀ (s : State) (tag sel v1 v0 : Byte) (i : Nat) (r : SiteRecord), tag ≠ 0 →
      s.part.hears = true →
      ((sel = 0 ∧ siteOk (u16 v1 v0) = true ∧ s.part.find (u16 v1 v0) = some (i, r)) ∨
       (sel = 1 ∧ u16 v1 v0 = i ∧ i ≤ 23 ∧ s.part.slotAt i = some r)) →
      exec (.siteGet [tag, sel, v1, v0]) s =
        .next (s.withPart (s.part.replied ⟨0x87, tag, .ok,
          [byte i,
           byte ((if s.part.aff.serving = some r.site then 1 else 0) +
             (if s.part.engine.cand.map Candidate.site = some r.site then 2 else 0) +
             (if s.part.target = some r.site then 4 else 0) + (if s.part.coChannel r then 8 else 0)),
           byte (r.site / 256), byte r.site, byte (r.channel / 256), byte r.channel, byte r.origin.code,
           BitVec.ofInt 8 r.bias,
           byte ((if r.level.isSome then 1 else 0) + (if r.confirm.isSome then 2 else 0) +
             (if r.load.isSome then 4 else 0) + (if r.bar.isSome then 8 else 0)),
           byte ((r.level.map Level.mean).getD 0),
           byte ((r.level.map Level.f16).getD 0 / 256), byte ((r.level.map Level.f16).getD 0),
           byte r.age, byte (r.confirm.getD 0), byte (r.load.getD 0),
           byte ((r.bar.map (fun b => b.kind.code)).getD 0), byte ((r.bar.map Bar.remaining).getD 0),
           byte r.failures, byte r.advAge]⟩))) ∧
  (∀ (s : State) (tag : Byte), tag ≠ 0 → s.part.hears = true → s.part.table.length = 24 →
      ∃ high mid low : Byte,
        (∀ n, n < 8 → low.getLsbD n = (s.part.slotAt n).isSome ∧ mid.getLsbD n = (s.part.slotAt (8 + n)).isSome ∧
          high.getLsbD n = (s.part.slotAt (16 + n)).isSome) ∧
        exec (.siteList [tag]) s =
          .next (s.withPart (s.part.replied ⟨0x88, tag, .ok,
            byte (s.part.table.filter Option.isSome).length :: high :: mid :: low ::
              ((s.part.table.filterMap id).flatMap (fun r => [byte (r.site / 256), byte r.site]))⟩)))

/-- 00_scope.md (Ties), R24, R84, R85, R93: a choice takes a record that qualifies, with none better and none as good
at a lower position; it takes none only when none qualifies. -/
def Obligations.ChoicesTakeTheBestAtTheLowestPosition : Prop :=
  ∀ p : Part,
    (∀ keep i v, p.victim keep = some (i, v) →
      p.slotAt i = some v ∧ p.evictable keep v = true ∧
      ∀ j w, p.slotAt j = some w → p.evictable keep w = true →
        w.advAge ≤ v.advAge ∧ (w.advAge = v.advAge → i ≤ j)) ∧
    (∀ keep, p.victim keep = none → ∀ j w, p.slotAt j = some w → p.evictable keep w = false) ∧
    (p.params.mode = .auto → p.engine.holdoff = 0 → ∀ i b, p.best = some (i, b) →
      p.slotAt i = some b ∧ p.candidateFit b = true ∧
      ∀ j w, p.slotAt j = some w → p.candidateFit w = true →
        scoreKey p.params w ≤ scoreKey p.params b ∧ (scoreKey p.params w = scoreKey p.params b → i ≤ j)) ∧
    (p.params.mode = .auto → p.engine.holdoff = 0 → p.best = none →
      ∀ j w, p.slotAt j = some w → p.candidateFit w = false) ∧
    ((p.params.mode = .fixed ∨ 0 < p.engine.holdoff) → p.best = none) ∧
    (∀ tried i b, p.lossChoice tried = some (i, b) →
      p.slotAt i = some b ∧ p.lossFit tried b = true ∧
      ∀ j w, p.slotAt j = some w → p.lossFit tried w = true →
        scoreKey p.params w ≤ scoreKey p.params b ∧ (scoreKey p.params w = scoreKey p.params b → i ≤ j)) ∧
    (∀ tried, p.lossChoice tried = none → ∀ j w, p.slotAt j = some w → p.lossFit tried w = false)

/-! ### The engine and the watches -/

/-- R153, R156: RUN from HALTED and CONTINUE from a freeze by a watch start the round timer from its full period. R38,
R157: CONTINUE in FROZEN with cause TUNE makes the tune home its retry, the engine staying FROZEN. Model's choice: the
lines of the tuning link in a shift (log entry 39). -/
def Obligations.RunAndContinueStartTheRounds : Prop :=
  (∀ (s : State) (tag : Byte), tag ≠ 0 → s.part.hears = true →
    s.part.engine.stepFlag = false → s.part.engine.state = .halted → s.part.aff.identity.isSome = true →
    exec (.run [tag]) s =
      .next (s.withPart ((({ s.part with
        engine.state := .running, engine.roundTimer := some s.part.params.roundMs } : Part).queueNotice
          (.engineState .running .run none)).replied ⟨0x89, tag, .ok, []⟩))) ∧
  (∀ (s : State) (tag : Byte) (slot : Nat), tag ≠ 0 → s.part.hears = true →
    s.part.engine.stepFlag = false → s.part.engine.state = .frozen (.watch slot) →
    s.part.engine.continuePending = false → s.part.aff.identity.isSome = true →
    exec (.cont [tag]) s =
      .next (s.withPart ((({ s.part with
        engine.state := .running, engine.roundTimer := some s.part.params.roundMs } : Part).queueNotice
          (.engineState .running .cont none)).replied ⟨0x8C, tag, .ok, []⟩))) ∧
  (∀ (s : State) (tag : Byte) (channel : Nat), tag ≠ 0 → s.part.hears = true →
      s.part.engine.stepFlag = false → s.part.engine.state = .frozen .tune →
      s.part.engine.continuePending = false → s.part.aff.identity.isSome = true →
      s.part.tuning.fault = true → s.part.tuning.position = .away → s.part.tuning.holder = none →
      s.part.servingChannel = some channel →
      exec (.cont [tag]) s =
        .next (s.withPart (({ s.part with
          engine.continuePending := true
          tuning.op := some
            { channel := channel, kind := .ret, attempt := 1, owner := .engine, phase := .shifting,
              word := BitVec.ofNat 24 (s.part.params.synPrefix * 1024 + channel), lockWait := none, settle := none,
              atLatch := .proceed }
          tuning.pins := startPins s.part.params channel
          tuning.tuned := none
          tuning.holder := some .engine } : Part).replied ⟨0x8C, tag, .ok, []⟩)))

/-- R154, R160: HALT stops the rounds and ends a STEP round; bursts, gaps and handovers in flight are left alone. R159:
a STEP round whose work has ended, with no handover of its own in flight, ends HALTED with ENGINE_STATE STEP_DONE: at
once where a burst or a gap in flight sets its request aside, at the end of its last gap, and at the end of its
handover. Model's choices: STEP_DONE is queued at the end of the command (log entry 10); the handover carries a mark
that the round began it (log entry 13); the count of MUTE's changes (log entry 20). -/
def Obligations.HaltAndStepDoneStopTheRounds : Prop :=
  (∀ (s : State) (tag : Byte), tag ≠ 0 → s.part.hears = true →
    (s.part.engine.state ≠ .halted ∨ s.part.engine.stepFlag = true →
      exec (.halt [tag]) s =
        .next (s.withPart ((({ s.part with
          engine.state := .halted, engine.stepFlag := false, engine.continuePending := false,
          engine.roundTimer := none, sched.work := none } : Part).queueNotice
            (.engineState .halted .halt none)).replied ⟨0x8A, tag, .ok, []⟩))) ∧
    (s.part.engine.state = .halted → s.part.engine.stepFlag = false →
      exec (.halt [tag]) s = .next (s.withPart (s.part.replied ⟨0x8A, tag, .state, []⟩)))) ∧
  (∀ (s : State) (tag : Byte), tag ≠ 0 → s.part.hears = true →
    s.part.engine.stepFlag = false → s.part.engine.state ≠ .running → s.part.engine.continuePending = false →
    s.part.aff.identity.isSome = true → (s.part.sched.burst.isSome = true ∨ s.part.homeGap = true) →
    (s.part.aff.serving = none ∨ s.part.aff.ctx.isSome = true ∨ s.part.aff.machine ≠ .registered) →
    ∃ t, exec (.step [tag]) s = .next t ∧ t.part.engine.state = .halted ∧ t.part.engine.stepFlag = false ∧
      t.part.sched.work = none ∧ t.part.sched.burst = s.part.sched.burst ∧ t.part.tuning = s.part.tuning ∧
      t.part.link.reply = some ⟨0x8B, tag, .ok, []⟩ ∧ s.part.Queues (.engineState .halted .stepDone none) t.part) ∧
  (∀ (s : State) (op : TuneOp) (home : Nat), s.part.settledOutside = true → s.part.tuning.op = some op →
    op.phase = .settling → s.part.servingChannel = some home → op.channel = home → s.part.engine.stepFlag = true →
    s.part.tuning.waitSched = none → s.part.tuning.waitAff = none → s.part.tuning.retryWaiting = false →
    let ended (q : Part) : Part :=
      (({ q with
        tuning.op := none
        tuning.tuned := some home
        tuning.position := .home
        tuning.fault := false
        tuning.holder := none
        engine.state := .halted
        engine.stepFlag := false
        sched.work := none
        lines := { s.part.lines.withMute false with txinh := false } } : Part).queueNotice
          (.engineState .halted .stepDone none)).startSending
    (∀ g w, op.owner = .scheduler → s.part.tuning.holder = some .scheduler → s.part.sched.gap = some g →
      g.phase = .tuneHome → s.part.aff.machine = .registered → s.part.aff.ctx = none →
      s.part.aff.deregisterDue = false → s.part.sched.burst = none → s.part.sched.work = some w → w.kind = .home →
      w.gapsLeft = 0 → w.visited ≠ [] →
      exec .settleExpiry s = .next (s.withPart (ended { s.part with sched.gap := none }))) ∧
    (∀ ctx k, op.owner = .affiliation → s.part.tuning.holder = some .affiliation → s.part.aff.machine = .hoReturn →
      s.part.aff.ctx = some ctx → ctx.inStep = true → s.part.sup.cls = some k → s.part.sup.state ≠ .lost →
      s.part.sched.work = none →
      exec .settleExpiry s =
        .next (s.withPart (ended { s.part with
          aff.machine := .registered
          aff.ctx := none
          sup.active := true
          sup.timer := some (250 * 2 ^ k)
          sup.pttNoted := s.part.active .ptt
          sup.gapNoted := s.part.homeGap }))))

/-- The check orders of R135, R153, R156 and R158; a refused command changes nothing. -/
def Obligations.EngineAndMoveCommandsRefusedInOrder : Prop :=
  (∀ (s : State) (tag : Byte) (code : ReplyCode), tag ≠ 0 →
      (s.part.hears = true →
        (if s.part.engine.stepFlag = true then code = .busy
         else if s.part.engine.state ≠ .halted then code = .state
         else s.part.aff.identity = none ∧ code = .noIdentity) →
        exec (.run [tag]) s = .next (s.withPart (s.part.replied ⟨0x89, tag, code, []⟩))) ∧
      (s.part.hears = true →
        (if s.part.engine.stepFlag = true then code = .busy
         else if s.part.engine.state = .running then code = .state
         else if s.part.engine.continuePending = true then code = .busy
         else s.part.aff.identity = none ∧ code = .noIdentity) →
        exec (.step [tag]) s = .next (s.withPart (s.part.replied ⟨0x8B, tag, code, []⟩))) ∧
      (s.part.hears = true →
        (if s.part.engine.stepFlag = true then code = .busy
         else if s.part.engine.state = .halted ∨ s.part.engine.state = .running then code = .state
         else if s.part.engine.continuePending = true then code = .busy
         else s.part.aff.identity = none ∧ code = .noIdentity) →
        exec (.cont [tag]) s = .next (s.withPart (s.part.replied ⟨0x8C, tag, code, []⟩)))) ∧
  (∀ (s : State) (tag s1 s0 : Byte) (code : ReplyCode), tag ≠ 0 →
      s.part.hears = true →
      (if siteOk (u16 s1 s0) = false then code = .badArg
       else if s.part.aff.machine ≠ .registered ∨ s.part.aff.ctx.isSome = true ∨ s.part.aff.signingOff = true then
        code = .state
       else match s.part.record (u16 s1 s0) with
        | none => code = .notFound
        | some r =>
          if s.part.aff.serving = some (u16 s1 s0) ∨ s.part.coChannel r = true then code = .state
          else r.confirm = none ∧ code = .notConfirmed) →
      exec (.move [tag, s1, s0]) s = .next (s.withPart (s.part.replied ⟨0x8F, tag, code, []⟩)))

/-- R77, R78 to R81, R158: a round, made by the timer or by STEP, raises the counters of every record, ends the
confirmations that are too old but for the serving record's and the target's, counts down every bar and the holdoff
counter, and leaves parameters, identity and inputs alone. R93, R132: an evaluation that takes the radio to NONE also
removes the confirmations on the channel it leaves, and the round makes no hunt work (log entry 7). R82, R86 to R88,
R98: with no loss owed, the quality judgement tests the best record against the serving one (by the counters moved,
`countRound`): the pending candidate is cleared, set, or counted, and with its count at the effective DWELL it is handed
over, or held by a watch. R42, R43: the scheduler is then asked for the round's work: with no handover begun a serving
burst is taken, unless PTT is active, the receiver is not HOME, or a burst or a gap is in flight, when the round has no
work. R55: in NONE the first record from the hunt pointer that is not blocked is visited by a HUNT gap. Model's choice
(log entry 13): the marks of what a STEP round began. -/
def Obligations.ARoundCountsJudgesAndAsksForWork : Prop :=
  let moved (s t : State) : Prop :=
    (∀ i r, s.part.slotAt i = some r → ∃ q, t.part.slotAt i = some q ∧ r.RoundLater q ∧
      q.confirm =
        if t.part.aff.serving = none ∧ s.part.servingChannel = some r.channel ∧ s.part.aff.serving ≠ some r.site then
          none
        else r.confirmLater s.part.params.confirmLife
          (decide (s.part.aff.serving = some r.site ∨ s.part.target = some r.site))) ∧
    (∀ i, s.part.slotAt i = none → t.part.slotAt i = none) ∧
    t.part.engine.holdoff = s.part.engine.holdoff - 1 ∧
    (s.part.aff.serving.isSome = true → t.part.aff.serving = none → t.part.sched.work = none) ∧
    t.part.params = s.part.params ∧ t.part.aff.identity = s.part.aff.identity ∧
    t.part.lines.ptt = s.part.lines.ptt ∧ t.part.lines.emerg = s.part.lines.emerg
  let judged (s t : State) : Prop :=
    ∀ (site : Nat) (r : SiteRecord) (l : Level), s.part.aff.serving = some site → s.part.aff.ctx = none →
      s.part.aff.machine = .registered → s.part.engine.releaseOwed = false →
      (s.part.sup.state ≠ .lost ∨ s.part.params.mode = .fixed) →
      s.part.countRound.record site = some r → r.level = some l →
      let ps := s.part.params
      let emergency := s.part.active .emerg
      let mine := scoreOf ps r l
      let cause (best : Nat) : Option Cause :=
        if s.part.sup.state = .fading ∧ mine < best then some .fading
        else if l.f16 / 16 < ps.floor ∧ mine < best then some .floor
        else if mine + (if emergency = true then ps.hyst / 2 else ps.hyst) ≤ best then some .better
        else none
      ((∀ i b, s.part.countRound.best = some (i, b) → cause (scoreKey ps b) = none) →
        t.part.engine.cand = none ∧ t.part.aff = s.part.aff) ∧
      (∀ i b c, s.part.countRound.best = some (i, b) → cause (scoreKey ps b) = some c →
        let count := match s.part.engine.cand with
          | some k => if k.site = b.site then min 15 (k.count + 1) else 1
          | none => 1
        let dwell := if c = .fading ∨ emergency = true then 1 else ps.dwell
        (count < dwell → t.part.engine.cand = some ⟨b.site, count, c⟩ ∧ t.part.aff = s.part.aff) ∧
        (dwell ≤ count → t.part.engine.cand = none ∧
          (s.part.engine.holdingSlot b.site = none → s.part.aff.signingOff = false →
            t.part.aff.ctx = some
              { target := b.site, cause := c, oldServing := some site, canReturn := true, attempts := 0, cls := none,
                tried := [], waiting := s.part.homeGap, inStep := t.part.engine.stepFlag } ∧
            (s.part.homeGap = false → s.part.tuning.holder = none → s.part.countRound.record b.site = some b →
              t.part.aff.machine = .hoTune ∧
              t.part.tuning.op = some (freshOp ps b.channel .away .affiliation))) ∧
          (∀ slot, s.part.engine.holdingSlot b.site = some slot → s.part.engine.state ≠ .frozen .tune →
            t.part.aff = s.part.aff ∧ t.part.engine.state = .frozen (.watch slot) ∧ t.part.engine.stepFlag = false ∧
            t.part.engine.roundTimer = none)))
  let asked (s t : State) : Prop :=
    ∀ site, s.part.aff.serving = some site → t.part.aff.serving = some site → t.part.aff.ctx = none →
      (s.part.sched.burst = none → s.part.homeGap = false → s.part.active .ptt = false →
        s.part.tuning.position = .home → s.part.conv.waiting = none →
        let burst (phase : SamplePhase) : Burst :=
          ⟨site, ⟨s.part.params.samples, s.part.params.sampleMs, 0, 0, phase⟩, true⟩
        (t.part.engine.state = .running ∨ t.part.engine.stepFlag = true →
          t.part.sched.work = some ⟨.home, s.part.params.gaps, [], none⟩) ∧
        (s.part.conv.state = .idle → t.part.sched.burst = some (burst .converting) ∧ t.part.conv.state = .rssi) ∧
        (s.part.conv.state ≠ .idle → t.part.sched.burst = some (burst .waiting) ∧
          t.part.conv.state = s.part.conv.state ∧ t.part.conv.waiting = some .rssi)) ∧
      (s.part.sched.burst.isSome = true ∨ s.part.homeGap = true ∨
        (s.part.sched.gap = none ∧ (s.part.active .ptt = true ∨ s.part.tuning.position ≠ .home)) →
        t.part.sched.work = none ∧ t.part.sched.burst = s.part.sched.burst ∧
        t.part.sched.gap.map Gap.phase = s.part.sched.gap.map Gap.phase ∧ t.part.tuning.op = s.part.tuning.op)
  let hunts (s t : State) : Prop :=
    s.part.aff.serving = none → s.part.aff.machine = .none → s.part.tuning.position = .parked →
      s.part.active .ptt = false → s.part.aff.tx = none → s.part.sched.burst = none → s.part.sched.gap = none →
      s.part.tuning.holder = none →
      let fits (i : Nat) : Prop := ∃ r, t.part.slotAt i = some r ∧ r.blocked = false
      (∀ i r, FirstFrom s.part.sched.huntPtr fits i → t.part.slotAt i = some r → s.part.sched.huntPtr < 24 →
        t.part.sched.gap = some (freshGap s.part.params i r .hunt false t.part.engine.stepFlag) ∧
        t.part.sched.work.map RoundWork.kind = some .hunt ∧
        t.part.tuning.op = some (freshOp s.part.params r.channel .away .scheduler)) ∧
      ((∀ i, ¬ fits i) →
        t.part.sched.gap = none ∧ t.part.sched.work = none ∧ t.part.tuning.op = s.part.tuning.op)
  (∀ s : State, s.part.engine.state = .running → s.part.engine.roundTimer.isSome = true →
    ∃ t, exec .roundExpiry s = .next t ∧ moved s t ∧ judged s t ∧ asked s t ∧ hunts s t ∧
      (t.part.engine.state = .running → t.part.engine.roundTimer = some s.part.params.roundMs)) ∧
  (∀ (s : State) (tag : Byte), tag ≠ 0 → s.part.hears = true →
    s.part.engine.stepFlag = false → s.part.engine.state ≠ .running → s.part.engine.continuePending = false →
    s.part.aff.identity.isSome = true →
    ∃ t, exec (.step [tag]) s = .next t ∧ t.part.link.reply = some ⟨0x8B, tag, .ok, []⟩ ∧ moved s t ∧ judged s t ∧
      asked s t ∧ hunts s t)

/-- R162: WATCH SET replaces a slot, WATCH CLEAR empties it, and a field out of range is refused. R163 to R165: a write
is answered by slot 0 and then by slot 1, each with WATCH_REPORT and, for HOLD_ON_CHANGE, the freeze: the HOST write of a
SITE PUT, the BEACON write of a serving beacon, and the SCAN write of a serving burst. R155, R165: a HOLD_ON_CHANGE that
finds the engine FROZEN with cause TUNE keeps state and cause, and ends a STEP round. -/
def Obligations.WatchesAreSetAndAnswerWrites : Prop :=
  (∀ (s : State) (tag slot s1 s0 mode source : Byte), tag ≠ 0 →
    s.part.hears = true →
    (∀ m src, watchModeOfCode mode.toNat = some m → watchSourceOfCode source.toNat = some src →
      u16 s1 s0 ≤ 4095 →
      (slot = 0 →
        exec (.watchSet [tag, slot, s1, s0, mode, source]) s =
          .next (s.withPart (({ s.part with engine.watch0 := some ⟨u16 s1 s0, m, src⟩ } : Part).replied
            ⟨0x8D, tag, .ok, []⟩))) ∧
      (slot = 1 →
        exec (.watchSet [tag, slot, s1, s0, mode, source]) s =
          .next (s.withPart (({ s.part with engine.watch1 := some ⟨u16 s1 s0, m, src⟩ } : Part).replied
            ⟨0x8D, tag, .ok, []⟩)))) ∧
    (2 ≤ slot.toNat ∨ 4095 < u16 s1 s0 ∨ 2 < mode.toNat ∨ 3 < source.toNat →
      exec (.watchSet [tag, slot, s1, s0, mode, source]) s =
        .next (s.withPart (s.part.replied ⟨0x8D, tag, .badArg, []⟩)))) ∧
  (∀ (s : State) (tag slot : Byte), tag ≠ 0 → s.part.hears = true →
    (slot = 0 →
      exec (.watchClear [tag, slot]) s =
        .next (s.withPart (({ s.part with engine.watch0 := none } : Part).replied ⟨0x8E, tag, .ok, []⟩))) ∧
    (slot = 1 →
      exec (.watchClear [tag, slot]) s =
        .next (s.withPart (({ s.part with engine.watch1 := none } : Part).replied ⟨0x8E, tag, .ok, []⟩))) ∧
    (2 ≤ slot.toNat →
      exec (.watchClear [tag, slot]) s =
        .next (s.withPart (s.part.replied ⟨0x8E, tag, .badArg, []⟩)))) ∧
  (∀ (s : State) (tag s1 s0 c1 c0 b : Byte) (r : SiteRecord), tag ≠ 0 → s.part.hears = true →
    siteOk (u16 s1 s0) = true → channelOk (u16 c1 c0) = true → s.part.record (u16 s1 s0) = some r →
    r.channel = u16 c1 c0 →
    let bias := clampInt (s8 b) (-40) 40
    let written : Part := { s.part with
      table := s.part.table.map (Option.map (fun x =>
        if x.site = r.site then { x with origin := .pinned, bias := bias } else x)) }
    let done (q : Part) : Prop :=
      exec (.sitePut [tag, s1, s0, c1, c0, b]) s =
        .next (s.withPart (q.replied ⟨0x85, tag, if bias = s8 b then .ok else .clamped, [signedByte bias]⟩))
    (s.part.engine.state = .halted ∨ s.part.engine.state = .running →
      s.part.Answers r.site .host r.level written done) ∧
    (∀ w, s.part.engine.state = .frozen .tune → s.part.engine.watch0 = some w → s.part.engine.watch1 = none →
      w.Meets r.site .host → w.mode = .holdOnChange →
      done { written.queueNotice (.watchReport 0 r.site .host r.level) with
        engine.stepFlag := false, engine.roundTimer := none, sched.work := none })) ∧
  (∀ (s : State) (tag : Byte) (args : List Byte) (b : Beacon) (r : SiteRecord), TakesFrame s tag args (.beacon b) →
    s.part.engine.state = .halted ∨ s.part.engine.state = .running →
    s.part.tuning.tuned = some b.channel → s.part.aff.serving = some b.site → s.part.aff.machine = .registered →
    s.part.tuning.position = .home → s.part.sup.active = true → s.part.sup.state = .healthy →
    s.part.record b.site = some r → r.channel = b.channel → b.neighbours = [] →
    let reloaded : Sup :=
      { active := true, state := .healthy, cls := some b.cls, timer := some (250 * 2 ^ b.cls),
        fine := s.part.params.fadeCount, coarse := s.part.params.lostCount, excuse := false,
        pttNoted := s.part.active .ptt, gapNoted := s.part.homeGap }
    s.part.Answers b.site .beacon r.level { s.part with table := s.part.confirmedBy b, sup := reloaded } (fun q =>
      exec (.airIn (tag :: args)) s = .next (s.withPart (q.replied ⟨0x90, tag, .ok, []⟩)))) ∧
  (∀ (s : State) (b : Burst) (r : SiteRecord) (code : Byte), s.part.settledOutside = true →
    s.part.engine.state = .halted ∨ s.part.engine.state = .running →
    s.part.conv.state = .rssi → s.part.conv.waiting = none → s.part.sched.burst = some b →
    b.run.phase = .converting → b.run.taken + 1 = b.run.count → b.standing = true → s.part.sched.work = none →
    s.part.record b.site = some r →
    let q := clampInt (((code.toNat * s.part.params.calSlope / 16 : Nat) : Int) + s.part.params.calOffset) 0 240
    let mean := (b.run.sum + q.toNat) / b.run.count
    s.part.Answers b.site .scan (r.credited s.part.params mean).level
      { s.part with
        table := s.part.table.map (Option.map (fun x =>
          if x.site = b.site then x.credited s.part.params mean else x))
        sched.burst := none
        conv.state := .idle }
      (fun q => exec (.rssiConversionDone code) s = .next (s.withPart q.startSending)))

/-! ### The tuning unit and the converter -/

/-- R26: a shift and latch put the 24 bits of the word on TDAT at the rising edges of TCLK, the most significant first,
then pulse TLE once, with all three lines low at the end; the word so taken is in effect. R29 to R31: an attempt runs from
the shift through the blanking and the lock wait into the settling; LOCK has no effect at any other time. Model's choice
(log entry 39): the run of levels that a shift and latch leave in the state, and its times of TDAT between the edges. -/
def Obligations.TuneAttemptRunsToSettling : Prop :=
  (∀ w : TuningWord, ∃ clocked : List TuningPins,
    shiftLevels w = clocked ++ [⟨false, false, true⟩, ⟨false, false, false⟩] ∧
    risingBits (⟨false, false, false⟩ :: clocked) = (List.range 24).map (fun i => w.getLsbD (23 - i)) ∧
    (∀ x ∈ clocked, x.tle = false) ∧ clocked.getLast? = some ⟨false, false, false⟩) ∧
  ∀ (s : State) (op : TuneOp), s.part.settledOutside = true → s.part.tuning.op = some op →
    (op.phase = .shifting → op.atLatch = .proceed →
      exec .shiftLatchDone s =
        .next (s.withPart { s.part with
          tuning.latched := some op.word
          tuning.pins := ⟨false, false, false⟩
          tuning.driven := shiftLevels op.word
          tuning.op := some { op with phase := .blanking, lockWait := some s.part.params.lockWaitMs } })) ∧
    (op.phase = .blanking →
      exec (.lockBlankEnd false) s =
        .next (s.withPart { s.part with tuning.op := some { op with phase := .waiting } }) ∧
      (s.part.params.settleMs ≠ 0 →
        exec (.lockBlankEnd true) s =
          .next (s.withPart { s.part with
            tuning.op := some
              { op with phase := .settling, lockWait := none, settle := some s.part.params.settleMs } }))) ∧
    (op.phase = .waiting → s.part.params.settleMs ≠ 0 →
      exec .lock s =
        .next (s.withPart { s.part with
          tuning.op := some { op with phase := .settling, lockWait := none, settle := some s.part.params.settleMs } })) ∧
    (op.phase ≠ .waiting → exec .lock s = .next s)

/-- R28, R31, R126: the tune of a handover ends READY, by the settle timer or at the lock with SETTLE_MS 0: the machine
goes to HO_LISTEN with the beacon wait running. R31, R37, R112, R130: the tune home of HO_RETURN ends, READY or as a
tune fault: the machine is REGISTERED with the context empty, the receiver released and the supervision unit resumed
with its kept state; the tune fault freezes the engine after that. The count of MUTE's changes is the model's own (log
entry 20). -/
def Obligations.HandoverTunesEnd : Prop :=
  (∀ (s : State) (op : TuneOp) (home : Nat), s.part.settledOutside = true → s.part.tuning.op = some op →
    op.owner = .affiliation → s.part.aff.machine = .hoTune → s.part.servingChannel = some home →
    op.channel ≠ home → s.part.tuning.position ≠ .home →
    let listening := Host.Outcome.next (s.withPart { s.part with
      tuning.op := none
      tuning.tuned := some op.channel
      tuning.position := .away
      aff.machine := .hoListen
      aff.hoTimer := some ⟨.beaconWait, s.part.params.beaconWaitMs⟩ })
    (op.phase = .settling → exec .settleExpiry s = listening) ∧
    (op.phase = .waiting → s.part.params.settleMs = 0 → exec .lock s = listening) ∧
    (op.phase = .blanking → s.part.params.settleMs = 0 → exec (.lockBlankEnd true) s = listening)) ∧
  (∀ (s : State) (op : TuneOp) (ctx : Context) (home k : Nat), s.part.settledOutside = true →
    s.part.tuning.op = some op → op.owner = .affiliation → s.part.aff.machine = .hoReturn →
    s.part.aff.ctx = some ctx → s.part.servingChannel = some home → s.part.sup.cls = some k →
    s.part.tuning.holder = some .affiliation → s.part.tuning.waitSched = none → s.part.tuning.waitAff = none →
    s.part.tuning.retryWaiting = false → s.part.engine.stepFlag = false →
    let back (q : Part) : Part := { q with
      tuning.op := none
      tuning.holder := none
      aff.machine := .registered
      aff.ctx := none
      sup.active := true
      sup.timer := if s.part.sup.state = .lost then s.part.sup.timer else some (250 * 2 ^ k)
      sup.pttNoted := s.part.active .ptt
      sup.gapNoted := s.part.homeGap }
    (op.channel = home →
      let ready := Host.Outcome.next (s.withPart (back { s.part with
        tuning.tuned := some home
        tuning.position := .home
        tuning.fault := false
        lines := { s.part.lines.withMute false with txinh := false } }))
      (op.phase = .settling → exec .settleExpiry s = ready) ∧
      (op.phase = .waiting → s.part.params.settleMs = 0 → exec .lock s = ready) ∧
      (op.phase = .blanking → s.part.params.settleMs = 0 → exec (.lockBlankEnd true) s = ready)) ∧
    (op.kind = .ret → op.attempt = 2 → op.lockWait.isSome = true → s.part.tuning.tuned = none →
      s.part.tuning.position ≠ .home →
      exec .lockWaitExpiry s =
        .next (s.withPart ((back { s.part with
          tuning.position := .away
          tuning.fault := true
          engine.state := .frozen .tune
          engine.continuePending := false
          engine.roundTimer := none
          sched.work := none
          lines := { s.part.lines.withMute true with txinh := false } }).queueNotice
            (.engineState (.frozen .tune) .tune none)).startSending)))

/-- The course of a gap. R28, R31, R49, R50, R55: its tune away ends READY and its sampling begins, with the listen
timer for a long gap and a hunt gap. R51: its samples taken, or its beacon heard in LISTEN, the mean is credited and a
HOME gap is sent home. R31, R39, R57: the tune home ends the gap, HOME again. R56, R133: a HUNT gap that is credited
moves the hunt pointer, and from ACCEPT_MIN on offers an ACQUIRE of the site heard. Model's choices: the visit pointer
moves before the tune home (log entry 8); the count of MUTE's changes (log entry 20); the lines of the tuning link in a
shift (log entry 39); the credit where the beacon names the visited record and that record left its slot or changed
channel before it was noted (log entry 38). -/
def Obligations.GapsRunTheirCourse : Prop :=
  (∀ (s : State) (op : TuneOp) (g : Gap), s.part.settledOutside = true →
    s.part.tuning.op = some op → op.owner = .scheduler → op.phase = .settling → s.part.sched.gap = some g →
    (g.phase = .tuneAway → s.part.sched.burst = none → s.part.conv.state = .idle →
      let sampling (position : Position) (fault : Bool) := Host.Outcome.next (s.withPart { s.part with
        tuning.op := none
        tuning.tuned := some op.channel
        tuning.position := position
        tuning.fault := fault
        sched.gap := some { g with
          phase := .sample
          run := ⟨s.part.params.samples, s.part.params.sampleMs, 0, 0, .converting⟩
          listenTimer := if g.kind = .short then none else some s.part.params.listenMs }
        conv.state := .rssi })
      (∀ home, s.part.servingChannel = some home → op.channel ≠ home → s.part.tuning.position ≠ .home →
        exec .settleExpiry s = sampling .away s.part.tuning.fault) ∧
      (s.part.aff.serving = none → s.part.tuning.position ≠ .home →
        exec .settleExpiry s = sampling .parked false)) ∧
    (∀ home, s.part.servingChannel = some home → g.phase = .tuneHome → op.channel = home →
      s.part.tuning.holder = some .scheduler →
      s.part.tuning.waitSched = none → s.part.tuning.waitAff = none → s.part.tuning.retryWaiting = false →
      s.part.aff.machine = .registered → s.part.aff.ctx = none → s.part.aff.deregisterDue = false →
      s.part.sched.work = none → s.part.engine.stepFlag = false →
      exec .settleExpiry s =
        .next (s.withPart { s.part with
          tuning.op := none
          tuning.tuned := some home
          tuning.position := .home
          tuning.fault := false
          tuning.holder := none
          sched.gap := none
          lines := s.part.lines.withMute false }))) ∧
  (∀ (s : State) (g : Gap) (home : Nat) (code : Byte), s.part.settledOutside = true → s.part.sched.gap = some g →
    g.kind = .short → g.phase = .sample → g.noted = none → g.run.phase = .converting →
    g.run.taken + 1 = g.run.count → s.part.sched.burst = none → s.part.conv.state = .rssi →
    s.part.conv.waiting = none → s.part.servingChannel = some home → s.part.tuning.holder = some .scheduler →
    s.part.tuning.op = none → s.part.tuning.position ≠ .home → s.part.engine.watch0 = none →
    s.part.engine.watch1 = none →
    let q := clampInt (((code.toNat * s.part.params.calSlope / 16 : Nat) : Int) + s.part.params.calOffset) 0 240
    let mean := (g.run.sum + q.toNat) / g.run.count
    exec (.rssiConversionDone code) s =
      .next (s.withPart (({ s.part with
        table := s.part.table.map (Option.map (fun r =>
          if g.standing = true ∧ r.site = g.site then r.credited s.part.params mean else r))
        sched.visitPtr := if g.fromPending = true then s.part.sched.visitPtr else (g.position + 1) % 24
        conv.state := .idle } : Part).sentHome g home))) ∧
  (∀ (s : State) (tag : Byte) (args : List Byte) (b : Beacon) (r : SiteRecord) (g : Gap),
    TakesFrame s tag args (.beacon b) → s.part.sched.gap = some g → g.phase = .listen →
    s.part.tuning.tuned = some b.channel → g.channel = b.channel → s.part.record b.site = some r →
    r.channel = b.channel → s.part.sched.burst = none → s.part.conv.state ≠ .rssi →
    s.part.conv.waiting ≠ some .rssi → s.part.tuning.holder = some .scheduler → s.part.tuning.op = none →
    s.part.engine.watch0 = none → s.part.engine.watch1 = none →
    let heard := s.part.table.map (Option.map (fun r =>
      if r.site = b.site then
        ({ r with confirm := some 0, load := some b.load } : SiteRecord).credited s.part.params g.run.mean
      else if r.channel = b.channel ∧ s.part.aff.serving ≠ some r.site then { r with confirm := none }
      else r))
    (∀ home, g.kind = .long → s.part.aff.machine = .registered → s.part.tuning.position ≠ .home →
      s.part.servingChannel = some home →
      exec (.airIn (tag :: args)) s =
        .next (s.withPart ((({ s.part with
          table := heard
          sched.visitPtr := if g.fromPending = true then s.part.sched.visitPtr else (g.position + 1) % 24 } :
            Part).sentHome g home).replied ⟨0x90, tag, .ok, []⟩))) ∧
    (g.kind = .hunt → s.part.aff.machine = .none → s.part.aff.serving = none → s.part.aff.ctx = none →
      s.part.aff.signingOff = false → s.part.aff.deregisterDue = false → s.part.tuning.position = .parked →
      s.part.tuning.fault = false → s.part.tuning.waitSched = none →
      s.part.tuning.waitAff = none → s.part.tuning.retryWaiting = false → s.part.sched.work = none →
      s.part.engine.stepFlag = false →
      (s.part.params.acceptMin ≤ g.run.mean → s.part.aff.identity.isSome = true → r.blocked = false →
        s.part.engine.state = .running →
        exec (.airIn (tag :: args)) s =
          .next (s.withPart (({ s.part with
            table := heard
            sched.gap := none
            sched.huntPtr := (g.position + 1) % 24
            engine.cand := none
            aff.machine := .hoTune
            aff.ctx := some
              { target := b.site, cause := .acquire, oldServing := none, canReturn := false, attempts := 0, cls := none,
                tried := [], waiting := false, inStep := false }
            sup.active := false
            sup.timer := none
            tuning.op := some (freshOp s.part.params b.channel .away .affiliation)
            tuning.pins := startPins s.part.params b.channel
            tuning.tuned := none
            tuning.holder := some .affiliation
            lines.txinh := true } : Part).replied ⟨0x90, tag, .ok, []⟩))) ∧
      (g.run.mean < s.part.params.acceptMin ∨ s.part.aff.identity = none ∨ r.blocked = true ∨
        s.part.engine.state ≠ .running →
        exec (.airIn (tag :: args)) s =
          .next (s.withPart (({ s.part with
            table := heard
            sched.gap := none
            sched.huntPtr := (g.position + 1) % 24
            tuning.holder := none } : Part).replied ⟨0x90, tag, .ok, []⟩)))))

/-- R36, R37: the lock wait of a RETURN operation that runs out brings attempt 2, and then the tune fault, which freezes
the engine: its round and a STEP round end, and the part is AWAY with the mark set. R32, R52: that of a gap's AWAY
operation is a failed visit, with the confirmation kept: a HOME gap is sent home, and a HUNT gap ends, past its
position. Model's choices: the visit pointer moves before the tune home (log entry 8); the lines of the tuning link in a
shift (log entry 39). That of a handover is in EachFailureGoesBack. -/
def Obligations.LockWaitExpiryRetriesFreezesOrFails : Prop :=
  (∀ (s : State) (op : TuneOp) (home : Nat), s.part.settledOutside = true → s.part.tuning.op = some op →
    op.kind = .ret → op.lockWait.isSome = true → s.part.servingChannel = some home →
    (op.attempt = 1 →
      exec .lockWaitExpiry s =
        .next (s.withPart { s.part with
          tuning.op := some { op with
            attempt := 2, phase := .shifting,
            word := BitVec.ofNat 24 (s.part.params.synPrefix * 1024 + op.channel), lockWait := none }
          tuning.pins := startPins s.part.params op.channel })) ∧
    (op.attempt = 2 → s.part.tuning.tuned = none →
      (op.owner = .engine ∨ (op.owner = .affiliation ∧ s.part.aff.machine = .hoReturn) ∨
        (op.owner = .scheduler ∧ ∃ g, s.part.sched.gap = some g ∧ g.phase = .tuneHome)) →
      ∃ t, exec .lockWaitExpiry s = .next t ∧ t.part.tuning.fault = true ∧ t.part.tuning.position = .away ∧
        t.part.engine.state = .frozen .tune ∧ t.part.engine.continuePending = false ∧
        t.part.engine.stepFlag = false ∧ t.part.engine.roundTimer = none ∧ t.part.sched.work = none ∧
        t.part.aff.serving = s.part.aff.serving ∧ t.part.table = s.part.table)) ∧
  (∀ (s : State) (op : TuneOp) (g : Gap), s.part.settledOutside = true → s.part.tuning.op = some op →
    op.kind = .away → op.owner = .scheduler → op.lockWait.isSome = true → s.part.tuning.tuned = none →
    s.part.sched.gap = some g → g.phase = .tuneAway → g.standing = true → s.part.conv.state ≠ .rssi →
    s.part.conv.waiting ≠ some .rssi → s.part.tuning.holder = some .scheduler → s.part.tuning.position ≠ .home →
    let failed := s.part.table.map (Option.map (fun r =>
      if r.site = g.site then
        if r.failures < 2 then { r with failures := r.failures + 1 }
        else { r with
          failures := 0
          bar := if s.part.params.failBar = 0 then r.bar else some ⟨.failed, s.part.params.failBar⟩ }
      else r))
    (∀ home, g.kind ≠ .hunt → s.part.servingChannel = some home →
      exec .lockWaitExpiry s =
        .next (s.withPart (({ s.part with
          table := failed
          sched.visitPtr := if g.fromPending = true then s.part.sched.visitPtr else (g.position + 1) % 24 } :
            Part).sentHome g home))) ∧
    (g.kind = .hunt → s.part.aff.serving = none → s.part.sched.work = none → s.part.tuning.waitSched = none →
      s.part.tuning.waitAff = none → s.part.tuning.retryWaiting = false →
      exec .lockWaitExpiry s =
        .next (s.withPart { s.part with
          table := failed
          sched.gap := none
          sched.huntPtr := (g.position + 1) % 24
          tuning.op := none
          tuning.holder := none
          tuning.position := .parked
          tuning.fault := false })))

/-- R43, R60: a further sample of a run is taken after the spacing, and its code is turned into a level with the
calibration then standing and added up. -/
def Obligations.SamplesAreTakenAndAddedUp : Prop :=
  ∀ (s : State) (b : Burst) (g : Gap) (code : Byte), s.part.settledOutside = true → s.part.conv.state = .rssi →
    let q := clampInt (((code.toNat * s.part.params.calSlope / 16 : Nat) : Int) + s.part.params.calOffset) 0 240
    (s.part.sched.burst = some b → b.run.phase = .spacing →
      exec .sampleTimerExpiry s =
        .next (s.withPart { s.part with sched.burst := some { b with run.phase := .converting } })) ∧
    (s.part.sched.burst = some b → b.run.phase = .converting → b.run.taken + 1 < b.run.count →
      exec (.rssiConversionDone code) s =
        .next (s.withPart { s.part with
          sched.burst := some { b with
            run.taken := b.run.taken + 1, run.sum := b.run.sum + q.toNat, run.phase := .spacing } })) ∧
    (s.part.sched.burst = none → s.part.sched.gap = some g → g.run.phase = .spacing →
      exec .sampleTimerExpiry s =
        .next (s.withPart { s.part with sched.gap := some { g with run.phase := .converting } })) ∧
    (s.part.sched.burst = none → s.part.sched.gap = some g → g.run.phase = .converting →
      g.run.taken + 1 < g.run.count →
      exec (.rssiConversionDone code) s =
        .next (s.withPart { s.part with
          sched.gap := some { g with
            run.taken := g.run.taken + 1, run.sum := g.run.sum + q.toNat, run.phase := .spacing } }))

/-- R12, R43, R62, R64, R65: the last sample of a serving burst credits the mean to its record: outright the first time,
through the filter afterwards. R42, R45 to R48, R57, R104: the round then goes on to its first gap: with the permissions
of R45, the pending candidate is visited when it is fit, and otherwise the first fit record from the visit pointer;
without them, or with no record to visit, the round's work has ended. Model's choices: where the conserve countdown is
lowered (log entry 12); the lines of the tuning link in a shift (log entry 39). -/
def Obligations.ServingBurstIsCreditedAndAGapStarts : Prop :=
  (∀ (s : State) (b : Burst) (code : Byte), s.part.settledOutside = true → s.part.conv.state = .rssi →
    s.part.conv.waiting = none → s.part.sched.burst = some b → b.run.phase = .converting →
    b.run.taken + 1 = b.run.count →
    let q := clampInt (((code.toNat * s.part.params.calSlope / 16 : Nat) : Int) + s.part.params.calOffset) 0 240
    let mean := (b.run.sum + q.toNat) / b.run.count
    ∃ t, exec (.rssiConversionDone code) s = .next t ∧
      t.part.sched.burst = none ∧ t.part.conv.state = .idle ∧
      (∀ i, t.part.slotAt i = (s.part.slotAt i).map (fun r =>
        if b.standing = true ∧ r.site = b.site then r.credited s.part.params mean else r)) ∧
      t.part.params = s.part.params ∧ t.part.aff.serving = s.part.aff.serving ∧
      t.part.aff.machine = s.part.aff.machine ∧ t.part.lines.battery = s.part.lines.battery) ∧
  (∀ (s : State) (b : Burst) (w : RoundWork) (site home : Nat) (code : Byte), s.part.settledOutside = true →
    s.part.conv.state = .rssi → s.part.conv.waiting = none → s.part.sched.burst = some b →
    b.run.phase = .converting → b.run.taken + 1 = b.run.count → s.part.sched.gap = none →
    s.part.sched.work = some w → w.kind = .home → s.part.aff.serving = some site →
    s.part.servingChannel = some home → s.part.tuning.holder = none → s.part.sched.visitPtr < 24 →
    s.part.engine.watch0 = none → s.part.engine.watch1 = none →
    let fits (i : Nat) : Prop := ∃ r, s.part.slotAt i = some r ∧ r.site ≠ site ∧ r.channel ≠ home ∧
      r.blocked = false ∧ i ∉ w.visited
    let permitted : Prop := s.part.tuning.position = .home ∧ s.part.active .ptt = false ∧
      s.part.active .call = false ∧ s.part.aff.tx = none ∧ s.part.aff.machine = .registered ∧ 0 < w.gapsLeft ∧
      (w.visited = [] → s.part.lines.battery = .low → s.part.sched.conserve ≤ 1)
    let pending (i : Nat) : Prop := w.visited = [] ∧ fits i ∧
      ∃ c r, s.part.engine.cand = some c ∧ s.part.find c.site = some (i, r)
    (¬ permitted ∨ (∀ i, ¬ fits i) →
      ∃ t, exec (.rssiConversionDone code) s = .next t ∧ t.part.sched.gap = none ∧ t.part.sched.work = none ∧
        t.part.tuning = s.part.tuning) ∧
    (∀ i r fromPending, permitted → s.part.slotAt i = some r →
      ((fromPending = true ∧ pending i) ∨
        (fromPending = false ∧ (∀ j, ¬ pending j) ∧ FirstFrom s.part.sched.visitPtr fits i)) →
      ∃ t, exec (.rssiConversionDone code) s = .next t ∧
        t.part.sched.gap = some (freshGap s.part.params i r (if r.confirm.isSome = true then .short else .long)
          fromPending s.part.engine.stepFlag) ∧
        t.part.sched.work = some { w with gapsLeft := w.gapsLeft - 1, visited := w.visited ++ [i] } ∧
        t.part.sched.conserve = (if w.visited = [] then s.part.params.conserveFactor else s.part.sched.conserve) ∧
        t.part.sup = { s.part.sup with gapNoted := s.part.sup.gapNoted || s.part.sup.timer.isSome } ∧
        t.part.tuning =
          { s.part.tuning with
            op := some (freshOp s.part.params r.channel .away .scheduler), pins := startPins s.part.params r.channel,
            tuned := none, holder := some .scheduler, position := .away } ∧
        t.part.lines.mute = true))

/-- R50 to R52: the listen timer of a long gap that runs out with no beacon noted is a failed visit: the confirmation
goes, the failures rise, and the third sets a FAILED bar; the tune home starts. Model's choices: the visit pointer moves
before it (log entry 8); the lines of the tuning link in a shift (log entry 39). -/
def Obligations.AVisitWithNoBeaconFails : Prop :=
  ∀ (s : State) (g : Gap) (home : Nat), s.part.settledOutside = true →
    g.listenTimer.isSome = true → g.noted = none → g.kind = .long → g.phase = .listen → g.standing = true →
    s.part.MidGap g home →
    exec .listenExpiry s =
      .next (s.withPart (({ s.part with
        table := s.part.table.map (Option.map (fun r =>
          if r.site = g.site then
            if r.failures < 2 then { r with confirm := none, failures := r.failures + 1 }
            else { r with
              confirm := none
              failures := 0
              bar := if s.part.params.failBar = 0 then r.bar else some ⟨.failed, s.part.params.failBar⟩ }
          else r))
        sched.visitPtr := if g.fromPending = true then s.part.sched.visitPtr else (g.position + 1) % 24 } :
          Part).sentHome g home))

/-- R66, R69, R70, R26: the filtered level stays in the range of a level, a score in 0 to 255, and two tuning words are
equal only when prefix and channel are. -/
def Obligations.LevelArithmeticStaysInRange : Prop :=
  (∀ (ps : Params) (code : Byte), levelOfCode ps code ≤ 240) ∧
  (∀ (ps : Params) (l : Level) (mean : Nat), 1 ≤ ps.kUp → ps.kUp ≤ 16 → 1 ≤ ps.kDown → ps.kDown ≤ 16 →
    min l.f16 (16 * mean) ≤ (filterLevel ps (some l) mean).f16 ∧
    (filterLevel ps (some l) mean).f16 ≤ max l.f16 (16 * mean)) ∧
  (∀ (ps : Params) (r : SiteRecord) (l : Level), scoreOf ps r l ≤ 255) ∧
  (∀ a b c d : Nat, a ≤ 16383 → b ≤ 1023 → c ≤ 16383 → d ≤ 1023 → tuningWord a b = tuningWord c d → a = c ∧ b = d)

/-! ### Supervision -/

/-- R102 to R108: the judgement of an interval by PTT, by the gap excuse, and by the counters, in SUPER_MODE DIRECT and
CHAINED. R90, R92, R93, R98, R132: LOST in AUTO with the engine RUNNING is answered at once: by a handover to the choice
of loss selection, by a freeze where a watch holds that selection, or, with no record to choose, by NONE. -/
def Obligations.IntervalsAreJudged : Prop :=
  ∀ (s : State) (site k period : Nat), s.part.settledOutside = true → s.part.sup.timer = some period →
    s.part.aff.serving = some site → s.part.sup.cls = some k →
    let again (q : Part) : Part := { q with
      sup.timer := some (250 * 2 ^ k)
      sup.pttNoted := s.part.active .ptt
      sup.gapNoted := s.part.homeGap }
    (s.part.sup.pttNoted = true → s.part.sup.state ≠ .lost →
      exec .intervalExpiry s = .next (s.withPart (again s.part))) ∧
    (s.part.sup.pttNoted = false → s.part.sup.gapNoted = true → s.part.sup.excuse = false →
      s.part.sup.state ≠ .lost →
      exec .intervalExpiry s = .next (s.withPart (again { s.part with sup.excuse := true }))) ∧
    (s.part.sup.pttNoted = false → (s.part.sup.gapNoted = false ∨ s.part.sup.excuse = true) →
      (s.part.sup.state = .healthy → 2 ≤ s.part.sup.fine →
        exec .intervalExpiry s =
          .next (s.withPart (again { s.part with sup.excuse := false, sup.fine := s.part.sup.fine - 1 }))) ∧
      (s.part.sup.state = .healthy → s.part.sup.fine = 1 →
        exec .intervalExpiry s =
          .next (s.withPart ((again { s.part with
            sup.excuse := false, sup.state := .fading, sup.fine := s.part.params.fadeCount }).queueNotice
              (.servingState site .fading)).startSending)) ∧
      (s.part.sup.state = .fading → s.part.params.superMode = .direct → 2 ≤ s.part.sup.coarse →
        exec .intervalExpiry s =
          .next (s.withPart (again { s.part with sup.excuse := false, sup.coarse := s.part.sup.coarse - 1 }))) ∧
      (s.part.sup.state = .fading → s.part.params.superMode = .chained → 2 ≤ s.part.sup.fine →
        exec .intervalExpiry s =
          .next (s.withPart (again { s.part with sup.excuse := false, sup.fine := s.part.sup.fine - 1 }))) ∧
      (s.part.sup.state = .fading → s.part.params.superMode = .chained → s.part.sup.fine = 1 →
        2 ≤ s.part.sup.coarse →
        exec .intervalExpiry s =
          .next (s.withPart (again { s.part with
            sup.excuse := false, sup.fine := s.part.params.fadeCount, sup.coarse := s.part.sup.coarse - 1 }))) ∧
      (∀ fine, s.part.sup.state = .fading → s.part.sup.coarse = 1 →
        ((s.part.params.superMode = .direct ∧ fine = s.part.sup.fine) ∨
          (s.part.params.superMode = .chained ∧ s.part.sup.fine = 1 ∧ fine = s.part.params.fadeCount)) →
        let lost : Sup := { s.part.sup with excuse := false, coarse := 0, fine := fine, state := .lost, timer := none }
        (s.part.params.mode = .fixed ∨ (s.part.engine.state ≠ .running ∧ s.part.engine.stepFlag = false) →
          exec .intervalExpiry s =
            .next (s.withPart (({ s.part with sup := lost } : Part).queueNotice
              (.servingState site .lost)).startSending)) ∧
        (s.part.params.mode = .auto → s.part.engine.state = .running → s.part.aff.machine = .registered →
          s.part.aff.ctx = none → s.part.aff.signingOff = false →
          (s.part.lossChoice [] = none → ∃ t, exec .intervalExpiry s = .next t ∧
            t.part.aff.serving = none ∧ t.part.aff.machine = .none ∧ t.part.aff.ctx = none ∧
            t.part.sup = { lost with active := false } ∧ t.part.engine.cand = none ∧
            t.part.engine.releaseOwed = false ∧ t.part.tuning.position = .parked ∧ t.part.lines.mute = true) ∧
          (∀ i r, s.part.lossChoice [] = some (i, r) → s.part.record r.site = some r →
            (s.part.engine.holdingSlot r.site = none → s.part.homeGap = false → s.part.tuning.holder = none →
              ∃ t, exec .intervalExpiry s = .next t ∧
                t.part.aff =
                  { s.part.aff with
                    machine := .hoTune
                    ctx := some
                      { target := r.site, cause := .loss, oldServing := some site, canReturn := false, attempts := 0,
                        cls := none, tried := [], waiting := false, inStep := s.part.engine.stepFlag } } ∧
                t.part.sup = { lost with active := false } ∧ t.part.engine.cand = none ∧
                t.part.engine.releaseOwed = false ∧
                t.part.tuning.op = some (freshOp s.part.params r.channel .away .affiliation) ∧
                t.part.table = s.part.table) ∧
            (∀ slot, s.part.engine.holdingSlot r.site = some slot → ∃ t, exec .intervalExpiry s = .next t ∧
              t.part.engine.state = .frozen (.watch slot) ∧ t.part.engine.roundTimer = none ∧
              t.part.aff = s.part.aff ∧ t.part.sup = lost ∧ t.part.tuning = s.part.tuning ∧
              t.part.table = s.part.table)))))

/-- R7, R13, R103: a beacon of the serving site reloads the supervision unit, confirms the serving record with its load
class, and takes the confirmation of every other record on its channel. R22, R23, R24: its neighbour list is then learned
entry by entry: an unknown site fills the lowest empty slot, or the slot freed by eviction, or is forgone; a LEARNED
record on another channel moves to the entry's; each record met starts its advertised age again. -/
def Obligations.ServingBeaconReloadsAndTeaches : Prop :=
  (∀ (s : State) (tag : Byte) (args : List Byte) (b : Beacon) (r : SiteRecord), TakesFrame s tag args (.beacon b) →
    s.part.tuning.tuned = some b.channel → s.part.aff.serving = some b.site → s.part.aff.machine = .registered →
    s.part.tuning.position = .home → s.part.sup.active = true → s.part.record b.site = some r →
    r.channel = b.channel →
    let reloaded : Sup :=
      { active := true, state := .healthy, cls := some b.cls, timer := some (250 * 2 ^ b.cls),
        fine := s.part.params.fadeCount, coarse := s.part.params.lostCount, excuse := false,
        pttNoted := s.part.active .ptt, gapNoted := s.part.homeGap }
    let confirmed (r : SiteRecord) : SiteRecord :=
      if r.site = b.site then { r with confirm := some 0, load := some b.load }
      else if r.channel = b.channel then { r with confirm := none } else r
    (∃ t, exec (.airIn (tag :: args)) s = .next t ∧ t.part.link.reply = some ⟨0x90, tag, .ok, []⟩ ∧
      t.part.sup = reloaded ∧ t.part.aff = s.part.aff ∧ t.part.tuning = s.part.tuning ∧
      t.part.params = s.part.params ∧
      (b.neighbours = [] → ∀ i, t.part.slotAt i = (s.part.slotAt i).map confirmed)) ∧
    (s.part.engine.watch0 = none → s.part.engine.watch1 = none → s.part.sup.state = .healthy →
      exec (.airIn (tag :: args)) s =
        .next (s.withPart ((({ s.part with
          table := s.part.table.map (Option.map confirmed)
          sup := reloaded } : Part).learnNeighbours b.neighbours).replied ⟨0x90, tag, .ok, []⟩)))) ∧
  (∀ (entries : List (Nat × Nat)) (p : Part),
    p.learnNeighbours entries = (entries.foldl (fun x e => Part.learnEntry e x) ([], p)).2) ∧
  (∀ (p : Part) (keep : List Nat) (site channel : Nat), p.tableSound = true →
    let made (i : Nat) : List (Option SiteRecord) := p.table.set i (some
      { site := site, channel := channel, origin := .learned, bias := 0, level := none, age := 0, confirm := none,
        load := none, bar := none, failures := 0, advAge := 0 })
    let learned (i : Nat) : Notice := .siteLearned site channel i .neighbour
    (p.aff.serving = some site → Part.learnEntry (site, channel) (keep, p) = (keep, p)) ∧
    (p.aff.serving ≠ some site → p.record site = none →
      (∀ i, p.lowestEmpty = some i →
        Part.learnEntry (site, channel) (keep, p) =
          (site :: keep, ({ p with table := made i } : Part).queueNotice (learned i))) ∧
      (∀ i v, p.lowestEmpty = none → p.victim keep = some (i, v) →
        ∃ q, Part.learnEntry (site, channel) (keep, p) = (site :: keep, q) ∧ q.table = made i ∧
          q.link = ((p.queueNotice (.siteEvicted v.site v.channel i v.advAge)).queueNotice (learned i)).link) ∧
      (p.lowestEmpty = none → p.victim keep = none →
        Part.learnEntry (site, channel) (keep, p) = (keep, p))) ∧
    (∀ r, p.aff.serving ≠ some site → p.record site = some r →
      ∃ q, Part.learnEntry (site, channel) (keep, p) = (site :: keep, q) ∧ q.link = p.link ∧
        q.table = p.table.map (Option.map (fun r =>
          if r.site = site then
            if r.origin = .learned ∧ r.channel ≠ channel ∧ p.target ≠ some site then
              { r with
                channel := channel, level := none, age := 0, confirm := none, bar := none, failures := 0,
                advAge := 0 }
            else { r with advAge := 0 }
          else r))))

/-! ### Handovers and the air -/

/-- R53, R125, R135: a taken MOVE begins a handover. With the receiver free it goes straight to HO_TUNE; with a HOME gap
in flight it waits in REGISTERED, and a gap that listens is sent home. Model's choices: the count of MUTE's changes (log
entry 20); the lines of the tuning link in a shift (log entry 39). -/
def Obligations.MoveBeginsAHandover : Prop :=
  ∀ (s : State) (tag s1 s0 : Byte) (home channel : Nat) (r : SiteRecord), tag ≠ 0 →
    s.part.hears = true → siteOk (u16 s1 s0) = true →
    s.part.aff.machine = .registered → s.part.aff.ctx = none → s.part.aff.signingOff = false →
    s.part.record (u16 s1 s0) = some r → s.part.aff.serving = some home → home ≠ u16 s1 s0 →
    s.part.servingChannel = some channel → r.channel ≠ channel → r.confirm.isSome = true →
    let begun (waiting : Bool) : Context :=
      { target := u16 s1 s0, cause := .host, oldServing := some home, canReturn := true, attempts := 0, cls := none,
        tried := [], waiting := waiting, inStep := false }
    (s.part.homeGap = false → s.part.tuning.holder = none → s.part.sched.burst = none →
      exec (.move [tag, s1, s0]) s =
        .next (s.withPart (({ s.part with
          engine.cand := none
          aff.ctx := some (begun false)
          aff.machine := .hoTune
          sup.active := false
          sup.timer := none
          tuning.op := some (freshOp s.part.params r.channel .away .affiliation)
          tuning.pins := startPins s.part.params r.channel
          tuning.tuned := none
          tuning.holder := some .affiliation
          tuning.position := .away
          lines := { s.part.lines.withMute true with txinh := true } } : Part).replied ⟨0x8F, tag, .ok, []⟩))) ∧
    (∀ g, s.part.sched.gap = some g → g.kind ≠ .hunt → g.phase = .tuneHome →
      exec (.move [tag, s1, s0]) s =
        .next (s.withPart (({ s.part with engine.cand := none, aff.ctx := some (begun true) } : Part).replied
          ⟨0x8F, tag, .ok, []⟩))) ∧
    (∀ g, s.part.MidGap g channel → g.phase = .listen →
      exec (.move [tag, s1, s0]) s =
        .next (s.withPart ((({ s.part with engine.cand := none, aff.ctx := some (begun true) } : Part).sentHome g
          channel).replied ⟨0x8F, tag, .ok, []⟩)))

/-- R119, R120, R122: a malformed frame is refused BAD_ARG: one whose bytes are those of no frame with every field in
its range (for a STATUS REPORT, whose unnamed flag bits are ignored, one of the wrong length or with its site ID out of
range). One that is not for this radio now is answered OK and discarded. Model's choices: unit addresses and levels are
in range at every value (log entry 15); a target's beacon that comes after the expiry or the abort in HO_LISTEN is stale
as any other (log entry 42). -/
def Obligations.FramesForOthersAreDiscarded : Prop :=
  (∀ (s : State) (tag : Byte) (args : List Byte), tag ≠ 0 → s.part.hears = true →
    3 ≤ args.length → args.length ≤ 33 → parseAir args = none →
    exec (.airIn (tag :: args)) s = .next (s.withPart (s.part.replied ⟨0x90, tag, .badArg, []⟩))) ∧
  (∀ (s : State) (tag : Byte) (args : List Byte), tag ≠ 0 → s.part.hears = true →
    3 ≤ args.length → args.length ≤ 33 →
    (args.headD 0 ≠ 0x23 ∧ (∀ f : AirFrame, f.inRange = true → f.bytes ≠ args)) ∨
      (args.headD 0 = 0x23 ∧ (args.length ≠ 8 ∨ siteOk (u16 (args.getD 1 0) (args.getD 2 0)) = false)) →
    exec (.airIn (tag :: args)) s = .next (s.withPart (s.part.replied ⟨0x90, tag, .badArg, []⟩))) ∧
  (∀ (s : State) (tag : Byte) (args : List Byte) (f : AirFrame), TakesFrame s tag args f → s.part.Discards f →
    exec (.airIn (tag :: args)) s = .next (s.withPart (s.part.replied ⟨0x90, tag, .ok, []⟩)))

/-- R15, R91, R114, R128: the target's GRANT makes it the serving site; the old serving record becomes ordinary and is
barred, and supervision starts afresh. R39: with the receiver on the target's channel MUTE is released once. Model's
choices: a REGISTER that still waits to be issued is dropped (log entry 28); the count of MUTE's changes (log
entry 20). -/
def Obligations.GrantMakesTheTargetServing : Prop :=
  ∀ (s : State) (tag : Byte) (args : List Byte) (site unit k : Nat) (slot : Option Nat) (sense : Sense)
    (ctx : Context), TakesFrame s tag args (.grant site unit slot sense) →
    s.part.aff.identity.map Identity.unit = some unit → s.part.aff.ctx = some ctx → ctx.target = site →
    ctx.cls = some k → (s.part.aff.machine = .hoSend ∨ s.part.aff.machine = .hoGrant) →
    s.part.aff.serving ≠ some site →
    ∃ t, exec (.airIn (tag :: args)) s = .next t ∧ t.part.link.reply = some ⟨0x90, tag, .ok, []⟩ ∧
      t.part.aff =
        { s.part.aff with
          serving := some site, slot := slot, sense := some sense, machine := .registered, ctx := none,
          hoTimer := none, registerDue := false } ∧
      t.part.sup =
        { active := true, state := .healthy, cls := some k, timer := some (250 * 2 ^ k),
          fine := s.part.params.fadeCount, coarse := s.part.params.lostCount, excuse := false,
          pttNoted := s.part.active .ptt, gapNoted := s.part.homeGap } ∧
      t.part.engine.holdoff = s.part.params.holdoff ∧ t.part.engine.releaseOwed = false ∧
      (∀ i, t.part.slotAt i = (s.part.slotAt i).map (fun r =>
        if s.part.aff.serving = some r.site then
          if r.blocked = true then r
          else if ctx.cause = .directed then
            { r with bar := if s.part.params.directHold = 0 then r.bar else some ⟨.hold, s.part.params.directHold⟩ }
          else { r with bar := if s.part.params.returnBar = 0 then r.bar else some ⟨.ret, s.part.params.returnBar⟩ }
        else if s.part.servingChannel = some r.channel ∧ r.site ≠ site then { r with confirm := none }
        else r)) ∧
      t.part.params = s.part.params ∧ t.part.lines.txinh = false ∧
      (∀ r, s.part.record site = some r → s.part.tuning.tuned = some r.channel → s.part.tuning.op = none →
        s.part.tuning.waitSched = none → s.part.tuning.waitAff = none → s.part.tuning.retryWaiting = false →
        t.part.tuning.position = .home ∧ t.part.lines = { s.part.lines.withMute false with txinh := false }) ∧
      (s.part.engine.stepFlag = false → s.part.tuning.retryWaiting = false →
        s.part.Queues (.roamed (s.part.aff.serving.getD 0) site ctx.cause) t.part)

/-- R112, R126, R127, R129 to R131: each failure of a handover that can go back marks the target, and the tune home is
started in HO_RETURN: LOCK, NO_BEACON, NOT_ACCEPTING, TX_NOT_SENT, REFUSED, NO_GRANT and ABORTED_PTT. PTT during the
shift of the tune away has the tune home start at the latch (R35). Model's choices: a REGISTER that still waits to be
issued is dropped (log entry 28); the lines of the tuning link in a shift (log entry 39). -/
def Obligations.EachFailureGoesBack : Prop :=
  ∀ (s : State) (ctx : Context) (home : Nat), s.part.settledOutside = true →
    ({ s.part with tuning.op := none } : Part).MidHandover ctx home → s.part.params.failBar ≠ 0 →
    let failed : SiteRecord → SiteRecord := fun r => { r with bar := some ⟨.failed, s.part.params.failBar⟩ }
    (∀ op, s.part.tuning.op = some op → op.kind = .away → op.owner = .affiliation → op.lockWait.isSome = true →
      s.part.tuning.tuned = none → s.part.aff.machine = .hoTune →
      ∃ t, exec .lockWaitExpiry s = .next t ∧
        s.part.GoesBack ctx home failed t.part ∧
        s.part.Queues (.handoverFailed ctx.target ctx.cause .lock none) t.part) ∧
    (s.part.tuning.op = none →
      (s.part.aff.hoTimer.map HoTimer.kind = some .beaconWait →
        ∃ t, exec .beaconWaitExpiry s = .next t ∧
          s.part.GoesBack ctx home (fun r => { failed r with confirm := none }) t.part ∧
          s.part.Queues (.handoverFailed ctx.target ctx.cause .noBeacon none) t.part) ∧
      (∀ tag args b r, TakesFrame s tag args (.beacon b) → s.part.aff.machine = .hoListen → b.site = ctx.target →
        b.accepting = false → s.part.tuning.tuned = some b.channel → s.part.record b.site = some r →
        r.channel = b.channel → s.part.sched.gap = none → s.part.engine.watch0 = none →
        s.part.engine.watch1 = none →
        ∃ t, exec (.airIn (tag :: args)) s = .next t ∧
          ({ s.part with
            table := s.part.table.map (Option.map (fun r =>
              if r.site = b.site then { r with confirm := some 0, load := some b.load }
              else if r.channel = b.channel ∧ s.part.aff.serving ≠ some r.site then { r with confirm := none }
              else r)) } : Part).GoesBack ctx home
            (fun r => { r with bar := some ⟨.refused, s.part.params.failBar⟩ }) t.part ∧
          s.part.Queues (.handoverFailed ctx.target ctx.cause .notAccepting none) t.part) ∧
      (s.part.aff.hoTimer.map HoTimer.kind = some .grantWait → s.part.params.regTries ≤ ctx.attempts →
        ∃ t, exec .grantWaitExpiry s = .next t ∧ s.part.GoesBack ctx home failed t.part ∧
          s.part.Queues (.handoverFailed ctx.target ctx.cause .noGrant none) t.part) ∧
      (∀ tx, s.part.aff.tx = some tx → s.part.aff.txTimer.isSome = true → tx.kind = .register →
        s.part.aff.machine = .hoSend → s.part.aff.registerDue = false → s.part.aff.deregisterDue = false →
        ∃ t, exec .txWaitExpiry s = .next t ∧
          ({ s.part with aff.tx := none, aff.txTimer := none } : Part).GoesBack ctx home failed t.part ∧
          s.part.Queues (.handoverFailed ctx.target ctx.cause .txNotSent none) t.part) ∧
      (∀ tag args unit reason retry, TakesFrame s tag args (.refuse ctx.target unit reason retry) →
        s.part.aff.identity.map Identity.unit = some unit →
        (s.part.aff.machine = .hoSend ∨ s.part.aff.machine = .hoGrant) →
        ∃ t, exec (.airIn (tag :: args)) s = .next t ∧
          s.part.GoesBack ctx home
            (fun r => { r with bar := some ⟨.refused, if retry = 0 then s.part.params.failBar else retry⟩ }) t.part ∧
          s.part.Queues (.handoverFailed ctx.target ctx.cause .refused (some reason)) t.part)) ∧
    (let x := s.part.lines.ptt
    let pressed : Part := { s.part with lines.ptt := { x with debounced := some x.raw, timer := none } }
    x.timer.isSome = true → x.debounced = some (!x.raw) → x.polarity.activeAt x.raw = true → x.report = false →
      s.part.sched.burst = none → s.part.sched.gap = none → s.part.sup.timer = none →
      (s.part.tuning.op = none → s.part.aff.machine = .hoListen →
        ∃ t, exec (.debounceExpiry .ptt) s = .next t ∧ pressed.GoesBack ctx home failed t.part ∧
          s.part.Queues (.handoverFailed ctx.target ctx.cause .abortedPtt none) t.part) ∧
      (∀ op, s.part.tuning.op = some op → s.part.aff.machine = .hoTune →
        (op.phase ≠ .shifting →
          ∃ t, exec (.debounceExpiry .ptt) s = .next t ∧ pressed.GoesBack ctx home failed t.part ∧
            s.part.Queues (.handoverFailed ctx.target ctx.cause .abortedPtt none) t.part) ∧
        (op.phase = .shifting → op.atLatch = .proceed →
          ∃ t, exec (.debounceExpiry .ptt) s = .next t ∧
            t.part.tuning =
              { s.part.tuning with
                op := some { op with atLatch := .restart { channel := home, kind := .ret } } } ∧
            t.part.aff = { s.part.aff with machine := .hoReturn, hoTimer := none, registerDue := false } ∧
            t.part.table = s.part.table.map (Option.map (fun r => if r.site = ctx.target then failed r else r)) ∧
            s.part.Queues (.handoverFailed ctx.target ctx.cause .abortedPtt none) t.part)))

/-- R94, R95, R132: a failed handover that cannot go back, with two targets of its event tried before, takes the radio to
NONE. -/
def Obligations.AnEventEndsAfterThreeTargets : Prop :=
  ∀ (s : State) (ctx : Context), s.part.settledOutside = true → s.part.aff.ctx = some ctx → ctx.canReturn = false →
    s.part.aff.hoTimer.map HoTimer.kind = some .beaconWait → 2 ≤ ctx.tried.length →
    ∃ t, exec .beaconWaitExpiry s = .next t ∧
      t.part.aff.serving = none ∧ t.part.aff.slot = none ∧ t.part.aff.sense = none ∧ t.part.aff.machine = .none ∧
      t.part.aff.ctx = none ∧ t.part.aff.hoTimer = none ∧ t.part.aff.identity = s.part.aff.identity ∧
      t.part.aff.request = s.part.aff.request ∧ t.part.aff.lastNumber = s.part.aff.lastNumber ∧
      t.part.sup.active = false ∧ t.part.sup.timer = none ∧ t.part.engine.cand = none ∧
      t.part.engine.releaseOwed = false ∧ t.part.tuning.position = .parked ∧ t.part.lines.mute = true ∧
      t.part.lines.txinh = false ∧ t.part.params = s.part.params

/-- R123, R126, R127: a REGISTER is issued as HO_SEND is entered, by the target's accepting beacon in HO_LISTEN (R121),
whose class is noted, and by the end of the grant wait below REG_TRIES; with a request outstanding it waits, and the end
of that request issues it. Model's choice (log entry 19): an absent identity gives unit and group 0 in the frame. -/
def Obligations.HandoverIssuesRegisters : Prop :=
  let issued (ctx : Context) (q : Part) : Part :=
    let frame : AirFrame := .register ctx.target ((q.aff.identity.map Identity.unit).getD 0)
      ((q.aff.identity.map Identity.group).getD 0) (q.aff.serving.getD 0) (q.active .emerg)
    let number := if q.aff.lastNumber < 255 then q.aff.lastNumber + 1 else 1
    ({ q with
      aff.machine := .hoSend
      aff.hoTimer := none
      aff.registerDue := false
      aff.ctx := some { ctx with attempts := ctx.attempts + 1 }
      aff.tx := some ⟨.register, frame, 0, number⟩
      aff.txTimer := some q.params.txWaitMs
      aff.lastNumber := number } : Part).queueNotice (.transmit number 0 frame)
  (∀ (s : State) (ctx : Context), s.part.settledOutside = true → s.part.aff.ctx = some ctx →
    s.part.aff.machine = .hoGrant → s.part.aff.hoTimer.map HoTimer.kind = some .grantWait →
    ctx.attempts < s.part.params.regTries → s.part.aff.tx = none →
    exec .grantWaitExpiry s = .next (s.withPart (issued ctx s.part).startSending)) ∧
  (∀ (s : State) (tag : Byte) (args : List Byte) (b : Beacon) (r : SiteRecord) (ctx : Context),
    TakesFrame s tag args (.beacon b) → s.part.aff.ctx = some ctx → s.part.aff.machine = .hoListen →
    b.site = ctx.target → b.accepting = true → s.part.tuning.tuned = some b.channel →
    s.part.record b.site = some r → r.channel = b.channel → s.part.sched.gap = none →
    s.part.engine.watch0 = none → s.part.engine.watch1 = none →
    let heard : Part := { s.part with table := s.part.confirmedBy b }
    (s.part.aff.tx = none →
      exec (.airIn (tag :: args)) s =
        .next (s.withPart ((issued { ctx with cls := some b.cls } heard).replied ⟨0x90, tag, .ok, []⟩))) ∧
    (s.part.aff.tx.isSome = true →
      exec (.airIn (tag :: args)) s =
        .next (s.withPart (({ heard with
          aff.machine := .hoSend
          aff.hoTimer := none
          aff.ctx := some { ctx with cls := some b.cls }
          aff.registerDue := true } : Part).replied ⟨0x90, tag, .ok, []⟩)))) ∧
  (∀ (s : State) (tx : TxReq) (ctx : Context), s.part.settledOutside = true → s.part.aff.tx = some tx →
    s.part.aff.txTimer.isSome = true → (tx.kind = .rollAnswer ∨ tx.kind = .statusReport) →
    s.part.aff.ctx = some ctx → s.part.aff.machine = .hoSend → s.part.aff.hoTimer = none →
    s.part.aff.registerDue = true →
    exec .txWaitExpiry s = .next (s.withPart (issued ctx s.part).startSending))

/-- R124, R126, R137, R142: AIR SENT ends the outstanding request and hands its outcome on by its kind; another number,
or no request, is refused STATE. R196: an outcome of neither code is BAD_ARG; stated with the request outstanding alone,
since the order of the two refusals is the model's choice (log entry 36). TX_WAIT ends it as NOT_SENT: an answer is
dropped, and the mark stands. -/
def Obligations.AirSentEndsTheRequest : Prop :=
  (∀ (s : State) (tag number code : Byte) (outcome : TxOutcome), tag ≠ 0 →
      s.part.hears = true →
      code = (match outcome with | .sent => 0 | .notSent => 1) →
      ((∀ tx, s.part.aff.tx = some tx → tx.number ≠ number.toNat) →
        exec (.airSent [tag, number, code]) s = .next (s.withPart (s.part.replied ⟨0x91, tag, .state, []⟩))) ∧
      (∀ tx, s.part.aff.tx = some tx → tx.number = number.toNat → s.part.aff.registerDue = false →
        (tx.kind = .rollAnswer → s.part.aff.deregisterDue = false →
          exec (.airSent [tag, number, code]) s =
            .next (s.withPart (({ s.part with aff.tx := none, aff.txTimer := none } : Part).replied
              ⟨0x91, tag, .ok, []⟩))) ∧
        (∀ site unit flags level count, tx.kind = .statusReport → s.part.aff.deregisterDue = false →
          tx.frame = .statusReport site unit flags level count →
          exec (.airSent [tag, number, code]) s =
            .next (s.withPart (({ s.part with
              aff.tx := none
              aff.txTimer := none
              aff.request := s.part.aff.request &&
                !(decide (outcome = .sent) && flags.request && !s.part.active .emerg) } : Part).replied
              ⟨0x91, tag, .ok, []⟩))) ∧
        (tx.kind = .register → s.part.aff.deregisterDue = false → s.part.aff.machine = .hoSend → outcome = .sent →
          ∀ ctx, s.part.aff.ctx = some ctx →
          exec (.airSent [tag, number, code]) s =
            .next (s.withPart (({ s.part with
              aff.tx := none
              aff.txTimer := none
              aff.machine := .hoGrant
              aff.hoTimer := some ⟨.grantWait, s.part.params.grantWaitMs⟩ } : Part).replied ⟨0x91, tag, .ok, []⟩))) ∧
        (tx.kind = .deregister → s.part.aff.deregisterDue = false →
          ∃ t, exec (.airSent [tag, number, code]) s = .next t ∧ t.part.link.reply = some ⟨0x91, tag, .ok, []⟩ ∧
            t.part.aff =
              { s.part.aff with
                tx := none, txTimer := none, signingOff := false, serving := none, slot := none, sense := none,
                machine := .none, hoTimer := none, ctx := none } ∧
            t.part.sup.active = false ∧ t.part.tuning.position = .parked ∧ t.part.lines.mute = true ∧
            t.part.params = s.part.params))) ∧
  (∀ (s : State) (tag number code : Byte) (tx : TxReq), tag ≠ 0 → s.part.hears = true → 2 ≤ code.toNat →
      s.part.aff.tx = some tx → tx.number = number.toNat →
      exec (.airSent [tag, number, code]) s = .next (s.withPart (s.part.replied ⟨0x91, tag, .badArg, []⟩))) ∧
  (∀ (s : State) (tx : TxReq), s.part.settledOutside = true → s.part.aff.tx = some tx →
      s.part.aff.txTimer.isSome = true → (tx.kind = .rollAnswer ∨ tx.kind = .statusReport) →
      s.part.aff.registerDue = false → s.part.aff.deregisterDue = false →
      exec .txWaitExpiry s = .next (s.withPart { s.part with aff.tx := none, aff.txTimer := none }))

/-- R54, R123, R124, R137: a taken SIGN OFF issues the DEREGISTER at once, with no HOME gap and no request in the way.
With a HOME gap in flight it waits, and a gap that listens is sent home; the end of that gap issues it. With a request
outstanding it waits, and the end of that request issues it. SIGN OFF is refused where the radio is not settled. Model's
choices: an absent identity or serving site gives 0 in the frame (log entry 19); the lines of the tuning link in a shift
(log entry 39). -/
def Obligations.SignOffIssuesDeregister : Prop :=
  let number (s : State) : Nat := if s.part.aff.lastNumber < 255 then s.part.aff.lastNumber + 1 else 1
  let frame (s : State) : AirFrame :=
    .deregister (s.part.aff.serving.getD 0) ((s.part.aff.identity.map Identity.unit).getD 0)
  (∀ (s : State) (tag : Byte), tag ≠ 0 → s.part.hears = true →
    let waits : Part := { s.part with aff.signingOff := true, aff.deregisterDue := true }
    (s.part.aff.machine = .registered → s.part.aff.ctx = none → s.part.aff.signingOff = false →
      (s.part.homeGap = false → s.part.aff.tx = none →
        exec (.signOff [tag]) s =
          .next (s.withPart ((({ s.part with
            aff.signingOff := true
            aff.deregisterDue := false
            aff.tx := some ⟨.deregister, frame s, 0, number s⟩
            aff.txTimer := some s.part.params.txWaitMs
            aff.lastNumber := number s } : Part).queueNotice (.transmit (number s) 0 (frame s))).replied
              ⟨0x95, tag, .ok, []⟩))) ∧
      (s.part.homeGap = false → s.part.aff.tx.isSome = true →
        exec (.signOff [tag]) s = .next (s.withPart (waits.replied ⟨0x95, tag, .ok, []⟩))) ∧
      (∀ g, s.part.sched.gap = some g → g.kind ≠ .hunt → g.phase = .tuneHome →
        exec (.signOff [tag]) s = .next (s.withPart (waits.replied ⟨0x95, tag, .ok, []⟩))) ∧
      (∀ g home, s.part.MidGap g home → g.phase = .listen →
        exec (.signOff [tag]) s = .next (s.withPart ((waits.sentHome g home).replied ⟨0x95, tag, .ok, []⟩)))) ∧
    (s.part.aff.machine ≠ .registered ∨ s.part.aff.ctx.isSome = true ∨ s.part.aff.signingOff = true →
      exec (.signOff [tag]) s = .next (s.withPart (s.part.replied ⟨0x95, tag, .state, []⟩)))) ∧
  (∀ (s : State) (op : TuneOp) (g : Gap) (home : Nat), s.part.settledOutside = true →
    s.part.tuning.op = some op → op.owner = .scheduler → op.phase = .settling → s.part.sched.gap = some g →
    s.part.servingChannel = some home → g.phase = .tuneHome → g.kind ≠ .hunt → op.channel = home →
    s.part.aff.ctx = none → s.part.aff.deregisterDue = true → s.part.aff.tx = none → s.part.sched.work = none →
    ∃ t, exec .settleExpiry s = .next t ∧ t.part.sched.gap = none ∧
      t.part.aff =
        { s.part.aff with
          deregisterDue := false, tx := some ⟨.deregister, frame s, 0, number s⟩,
          txTimer := some s.part.params.txWaitMs, lastNumber := number s }) ∧
  (∀ (s : State) (tx : TxReq), s.part.settledOutside = true → s.part.aff.tx = some tx →
    s.part.aff.txTimer.isSome = true → tx.kind = .rollAnswer → s.part.aff.registerDue = false →
    s.part.aff.deregisterDue = true → s.part.homeGap = false →
    exec .txWaitExpiry s =
      .next (s.withPart (({ s.part with
        aff.deregisterDue := false
        aff.tx := some ⟨.deregister, frame s, 0, number s⟩
        aff.txTimer := some s.part.params.txWaitMs
        aff.lastNumber := number s } : Part).queueNotice (.transmit (number s) 0 (frame s))).startSending))

/-- R144, R145, R150: a ROLL CALL of the serving site is answered by slot, sense and mark, with the slot's delay; while a
request is outstanding the answer is dropped. Model's choice (log entry 19): an absent identity gives unit 0 in the
frame. -/
def Obligations.RollCallAnswered : Prop :=
  ∀ (s : State) (tag : Byte) (args : List Byte) (site : Nat), TakesFrame s tag args (.rollCall site) →
    s.part.aff.serving = some site → s.part.aff.machine = .registered → s.part.tuning.position = .home →
    (∀ slot, s.part.aff.slot = some slot → s.part.aff.tx = none →
      ((s.part.aff.sense = some .present ∧ s.part.aff.request = false) ∨
        (s.part.aff.sense = some .need ∧ s.part.aff.request = true)) →
      let frame : AirFrame := .rollAnswer site ((s.part.aff.identity.map Identity.unit).getD 0) (some slot)
      let number := if s.part.aff.lastNumber < 255 then s.part.aff.lastNumber + 1 else 1
      let delay := slot * s.part.params.slotMs
      exec (.airIn (tag :: args)) s =
        .next (s.withPart ((({ s.part with
          aff.tx := some ⟨.rollAnswer, frame, delay, number⟩
          aff.txTimer := some (s.part.params.txWaitMs + delay)
          aff.lastNumber := number } : Part).queueNotice (.transmit number delay frame)).replied
            ⟨0x90, tag, .ok, []⟩))) ∧
    (s.part.aff.slot = none ∨ s.part.aff.tx.isSome = true ∨
      (s.part.aff.sense = some .present ∧ s.part.aff.request = true) ∨
      (s.part.aff.sense = some .need ∧ s.part.aff.request = false) →
      exec (.airIn (tag :: args)) s = .next (s.withPart (s.part.replied ⟨0x90, tag, .ok, []⟩)))

/-- R147, R148, R150: a STATUS QUERY for our unit is answered with a STATUS REPORT of the part as it stands, or dropped
while a request is outstanding. -/
def Obligations.StatusQueryAnswered : Prop :=
  ∀ (s : State) (tag : Byte) (args : List Byte) (site unit : Nat), TakesFrame s tag args (.statusQuery site unit) →
    s.part.aff.identity.map Identity.unit = some unit → s.part.aff.serving = some site →
    s.part.aff.machine = .registered → s.part.tuning.position = .home →
    (s.part.aff.tx = none →
      let level := match s.part.record site with
        | some r => r.level.map (fun l => l.f16 / 16)
        | none => none
      let count := (s.part.occupied.filter (fun x =>
        decide (s.part.aff.serving ≠ some x.2.site) && x.2.confirm.isSome &&
          decide (s.part.servingChannel ≠ some x.2.channel) && x.2.bar.isNone && x.2.level.isSome &&
          decide (x.2.age ≤ s.part.params.staleLimit))).length
      let frame : AirFrame := .statusReport site unit
        ⟨s.part.aff.request, s.part.active .emerg, decide (s.part.lines.battery = .low),
          decide (s.part.sup.state ≠ .healthy)⟩ level count
      let number := if s.part.aff.lastNumber < 255 then s.part.aff.lastNumber + 1 else 1
      exec (.airIn (tag :: args)) s =
        .next (s.withPart ((({ s.part with
          aff.tx := some ⟨.statusReport, frame, 0, number⟩
          aff.txTimer := some s.part.params.txWaitMs
          aff.lastNumber := number } : Part).queueNotice (.transmit number 0 frame)).replied
            ⟨0x90, tag, .ok, []⟩))) ∧
    (s.part.aff.tx.isSome = true →
      exec (.airIn (tag :: args)) s = .next (s.withPart (s.part.replied ⟨0x90, tag, .ok, []⟩)))

/-- R119, R134: a DIRECT for our unit or our group, in the order of its checks: each refusal with its DIRECT_REFUSED
notice, a target that serves (discarded), an unknown target that is learned and refused UNCONFIRMED (R23, R24), a watch
that holds the selection (R98), and the DIRECTED handover of one that passes (R125). R136: a RELEASE taken while the
engine makes no rounds sets the bar, the notice and the release owed mark. Model's choices: the count of MUTE's changes
(log entry 20); the lines of the tuning link in a shift (log entry 39). -/
def Obligations.DirectAndReleaseTaken : Prop :=
  (∀ (s : State) (tag : Byte) (args : List Byte) (site address target channel : Nat) (kind : AddressKind),
    TakesFrame s tag args (.direct site kind address target channel) →
    (match kind with
      | .unit => s.part.aff.identity.map Identity.unit
      | .group => s.part.aff.identity.map Identity.group) = some address →
    s.part.aff.serving = some site → s.part.aff.machine = .registered → s.part.tuning.position = .home →
    let done (q : Part) : Prop :=
      exec (.airIn (tag :: args)) s = .next (s.withPart (q.replied ⟨0x90, tag, .ok, []⟩))
    (∀ reason : DirectReason,
      (if s.part.aff.ctx.isSome = true ∨ s.part.aff.signingOff = true then reason = .busy
       else if s.part.params.mode = .fixed then reason = .modeFixed
       else s.part.aff.serving ≠ some target ∧
        match s.part.record target with
        | none => s.part.lowestEmpty = none ∧ s.part.victim [] = none ∧ reason = .unknown
        | some r =>
          if s.part.coChannel r = true ∨ r.confirm = none then reason = .unconfirmed
          else if r.blocked = true then reason = .barred
          else (∀ l, r.level = some l → l.f16 / 16 < s.part.params.acceptMin) ∧ reason = .weak) →
      done (s.part.queueNotice (.directRefused target reason))) ∧
    (s.part.aff.ctx = none → s.part.aff.signingOff = false → s.part.params.mode = .auto →
      (target = site → done s.part) ∧
      (target ≠ site → s.part.record target = none → s.part.tableSound = true →
        let made (i : Nat) : List (Option SiteRecord) := s.part.table.set i (some
          { site := target, channel := channel, origin := .learned, bias := 0, level := none, age := 0,
            confirm := none, load := none, bar := none, failures := 0, advAge := 0 })
        (∀ i, s.part.lowestEmpty = some i →
          done ((({ s.part with table := made i } : Part).queueNotice
            (.siteLearned target channel i .direct)).queueNotice (.directRefused target .unconfirmed))) ∧
        (∀ i v, s.part.lowestEmpty = none → s.part.victim [] = some (i, v) →
          ∃ q : Part, done q ∧ q.table = made i ∧ q.aff = s.part.aff ∧ q.link =
            (((s.part.queueNotice (.siteEvicted v.site v.channel i v.advAge)).queueNotice
              (.siteLearned target channel i .direct)).queueNotice (.directRefused target .unconfirmed)).link)) ∧
      (∀ r l home, target ≠ site → s.part.record target = some r → s.part.servingChannel = some home →
        r.channel ≠ home → r.confirm.isSome = true → r.blocked = false → r.level = some l →
        s.part.params.acceptMin ≤ l.f16 / 16 →
        (s.part.engine.holdingSlot target = none → s.part.homeGap = false → s.part.tuning.holder = none →
          s.part.sched.burst = none →
          done { s.part with
            engine.cand := none
            aff.ctx := some
              { target := target, cause := .directed, oldServing := some site, canReturn := true, attempts := 0,
                cls := none, tried := [], waiting := false, inStep := false }
            aff.machine := .hoTune
            sup.active := false
            sup.timer := none
            tuning.op := some (freshOp s.part.params r.channel .away .affiliation)
            tuning.pins := startPins s.part.params r.channel
            tuning.tuned := none
            tuning.holder := some .affiliation
            tuning.position := .away
            lines := { s.part.lines.withMute true with txinh := true } }) ∧
        (∀ slot, s.part.engine.holdingSlot target = some slot →
          (s.part.engine.state = .halted ∨ s.part.engine.state = .running) → done (s.part.heldBy slot))))) ∧
  (∀ (s : State) (tag : Byte) (args : List Byte) (site unit retry rounds : Nat),
    TakesFrame s tag args (.release site unit retry) →
    s.part.aff.identity.map Identity.unit = some unit → s.part.aff.serving = some site →
    s.part.aff.machine = .registered → s.part.tuning.position = .home → s.part.engine.state ≠ .running →
    s.part.engine.stepFlag = false → rounds = (if retry = 0 then s.part.params.failBar else retry) → rounds ≠ 0 →
    exec (.airIn (tag :: args)) s =
      .next (s.withPart ((({ s.part with
        table := s.part.table.map (Option.map (fun r =>
          if r.site = site then { r with bar := some ⟨.refused, rounds⟩ } else r))
        engine.releaseOwed := true } : Part).queueNotice (.released site rounds)).replied ⟨0x90, tag, .ok, []⟩)))

/-- R141. -/
def Obligations.RequestSetsAndCancels : Prop :=
  ∀ (s : State) (tag action : Byte), tag ≠ 0 → s.part.hears = true →
    (action = 0 →
      exec (.request [tag, action]) s =
        .next (s.withPart (({ s.part with aff.request := true } : Part).replied ⟨0x94, tag, .ok, []⟩))) ∧
    (action = 1 → s.part.active .emerg = false →
      exec (.request [tag, action]) s =
        .next (s.withPart (({ s.part with aff.request := false } : Part).replied ⟨0x94, tag, .ok, []⟩))) ∧
    (action = 1 → s.part.active .emerg = true →
      exec (.request [tag, action]) s = .next (s.withPart (s.part.replied ⟨0x94, tag, .ok, []⟩))) ∧
    (2 ≤ action.toNat →
      exec (.request [tag, action]) s = .next (s.withPart (s.part.replied ⟨0x94, tag, .badArg, []⟩)))

/-! ### The input lines and the battery -/

/-- R168, R174: a level that differs from the debounced one starts the debounce timer; one that agrees with it stops it;
BATT is not sensed in ANALOG mode; a level the pin already has is no change (model's choice, log entry 1). R168, R178:
with DEBOUNCE_MS at 0 the level is taken at once, as a debounce expiry takes it, unless a timer still runs, which goes
on with its own period (log entry 17). -/
def Obligations.EdgesStartTheDebounce : Prop :=
  ∀ (s : State) (i : Input) (level : Bool), s.part.settledOutside = true →
    let x := s.part.lines.get i
    let put (y : InputLine) : State := s.withPart { s.part with lines := s.part.lines.set i y }
    (x.raw = level → exec (.inputEdge i level) s = .next s) ∧
    (x.raw ≠ level → i = .batt → s.part.lines.battMode = .analog →
      exec (.inputEdge i level) s = .next (put { x with raw := level })) ∧
    (x.raw ≠ level → (i ≠ .batt ∨ s.part.lines.battMode = .digital) →
      (x.debounced = some level → exec (.inputEdge i level) s = .next (put { x with raw := level, timer := none })) ∧
      (x.debounced ≠ some level → s.part.params.debounceMs ≠ 0 →
        exec (.inputEdge i level) s =
          .next (put { x with raw := level, timer := some s.part.params.debounceMs })) ∧
      (x.debounced ≠ some level → s.part.params.debounceMs = 0 → x.timer.isSome = true →
        exec (.inputEdge i level) s = .next (put { x with raw := level })) ∧
      (x.debounced ≠ some level → s.part.params.debounceMs = 0 → x.timer = none →
        ∀ n, exec (.inputEdge i level) s = exec (.debounceExpiry i) (put { x with raw := level, timer := some n })))

/-- R168 to R170, R172: at the debounce expiry an input takes its raw level: the first is its reference too; a change
that is to be reported sets the mark with LINE_CHANGE. R140: EMERG becoming active sets the service request mark,
becoming inactive leaves it. R169: PTT and CALL becoming inactive do nothing else. R44, R53, R56, R104: PTT becoming
active is noted, discards a serving burst, and aborts a gap: a HOME gap is sent home, a HUNT gap ends; CALL aborts a
HOME gap alone. Model's choices: the conserve countdown is lowered where a burst is discarded with the battery LOW (log
entry 12); the lines of the tuning link in a shift (log entry 39). (PTT in a handover is in EachFailureGoesBack.) R174,
R175: BATT in digital mode makes the battery LOW while active and NORMAL while not, with BATTERY at a change. -/
def Obligations.DebounceExpiryTakesTheLevel : Prop :=
  (∀ s : State, s.part.settledOutside = true → s.part.lines.emerg.timer.isSome = true →
    let x := s.part.lines.emerg
    let isActive := (x.polarity == Polarity.activeHigh) == x.raw
    (x.debounced = none →
      exec (.debounceExpiry .emerg) s =
        .next (s.withPart { s.part with
          lines.emerg := { x with debounced := some x.raw, timer := none, reference := some x.raw }
          aff.request := s.part.aff.request || isActive })) ∧
    (x.debounced = some (!x.raw) → x.report = false →
      exec (.debounceExpiry .emerg) s =
        .next (s.withPart { s.part with
          lines.emerg := { x with debounced := some x.raw, timer := none }
          aff.request := s.part.aff.request || isActive })) ∧
    (x.debounced = some (!x.raw) → x.report = true → x.reference ≠ some x.raw →
      s.part.lines.ptt.mark = false → s.part.lines.call.mark = false → x.mark = false →
      s.part.lines.batt.mark = false →
      exec (.debounceExpiry .emerg) s =
        .next (s.withPart (({ s.part with
          lines.emerg := { x with debounced := some x.raw, timer := none, mark := true }
          aff.request := s.part.aff.request || isActive } : Part).queueNotice
            (.lineChange [false, false, true, false]
              [s.part.active .ptt, s.part.active .call, isActive, s.part.active .batt])).startSending))) ∧
  (∀ (s : State) (i : Input), s.part.settledOutside = true → (s.part.lines.get i).timer.isSome = true →
    (i = .ptt ∨ i = .call) →
    let x := s.part.lines.get i
    let first : InputLine := { x with debounced := some x.raw, timer := none, reference := some x.raw }
    let later : InputLine := { x with debounced := some x.raw, timer := none }
    let isActive := (x.polarity == Polarity.activeHigh) == x.raw
    (isActive = false →
      (x.debounced = none →
        exec (.debounceExpiry i) s = .next (s.withPart { s.part with lines := s.part.lines.set i first })) ∧
      (x.debounced = some (!x.raw) → x.report = false →
        exec (.debounceExpiry i) s = .next (s.withPart { s.part with lines := s.part.lines.set i later }))) ∧
    (∀ y, isActive = true →
      ((x.debounced = none ∧ y = first) ∨ (x.debounced = some (!x.raw) ∧ x.report = false ∧ y = later)) →
      let taken : Part := { s.part with lines := s.part.lines.set i y }
      let noted : Part := { taken with
        sup.pttNoted := s.part.sup.pttNoted || (decide (i = .ptt) && s.part.sup.timer.isSome) }
      (s.part.sched.burst = none → s.part.sched.gap = none → (i = .call ∨ s.part.aff.ctx = none) →
        exec (.debounceExpiry i) s = .next (s.withPart noted)) ∧
      (∀ g home, s.part.sched.burst = none → (i = .call ∨ s.part.aff.ctx = none) → s.part.MidGap g home →
        g.phase = .listen →
        exec (.debounceExpiry i) s = .next (s.withPart (noted.sentHome g home))) ∧
      (∀ b, i = .ptt → s.part.sched.burst = some b → s.part.sched.gap = none → s.part.aff.ctx = none →
        s.part.conv.state = .rssi → s.part.conv.waiting = none → s.part.engine.stepFlag = false →
        exec (.debounceExpiry i) s =
          .next (s.withPart { noted with
            sched.burst := none
            sched.work := none
            sched.conserve :=
              if s.part.lines.battery = .low ∧
                  s.part.sched.work.any (fun w => w.kind == .home && w.visited.isEmpty) = true then
                s.part.sched.conserve - 1
              else s.part.sched.conserve
            conv.state := .idle })) ∧
      (∀ g, i = .ptt → s.part.sched.burst = none → s.part.sched.gap = some g → g.kind = .hunt →
        s.part.aff.ctx = none → s.part.conv.state ≠ .rssi → s.part.conv.waiting ≠ some .rssi →
        s.part.tuning.holder = some .scheduler → s.part.tuning.op = none → s.part.tuning.waitSched = none →
        s.part.tuning.waitAff = none → s.part.tuning.retryWaiting = false → s.part.engine.stepFlag = false →
        (∀ w, s.part.sched.work = some w → w.kind = .hunt) →
        exec (.debounceExpiry i) s =
          .next (s.withPart { noted with sched.gap := none, sched.work := none, tuning.holder := none })) ∧
      (∀ g, s.part.sched.gap = some g →
        ((i = .call ∧ g.kind = .hunt) ∨
          (g.kind ≠ .hunt ∧ g.phase = .tuneHome ∧ s.part.sched.burst = none ∧
            (i = .call ∨ s.part.aff.ctx = none))) →
        exec (.debounceExpiry i) s = .next (s.withPart noted)))) ∧
  (∀ s : State, s.part.settledOutside = true → s.part.lines.batt.timer.isSome = true →
    let x := s.part.lines.batt
    let isActive := (x.polarity == Polarity.activeHigh) == x.raw
    let condition := if isActive = true then BattCondition.low else BattCondition.normal
    ∀ y : InputLine,
      ((x.debounced = none ∧ y = { x with debounced := some x.raw, timer := none, reference := some x.raw }) ∨
        (x.debounced = some (!x.raw) ∧ x.report = false ∧ y = { x with debounced := some x.raw, timer := none })) →
      (s.part.lines.battery = condition →
        exec (.debounceExpiry .batt) s = .next (s.withPart { s.part with lines.batt := y })) ∧
      (s.part.lines.battery ≠ condition →
        exec (.debounceExpiry .batt) s =
          .next (s.withPart (({ s.part with lines.batt := y, lines.battery := condition } : Part).queueNotice
            (.battery condition s.part.lines.battMode none)).startSending)))

/-- R171: a taken LINES SET replaces polarity and change report of the four inputs and the BATT mode, and leaves the
pins; an undefined bit or mode is refused. -/
def Obligations.LinesSetReplacesTheConfiguration : Prop :=
  ∀ (s : State) (tag p c e b m : Byte), tag ≠ 0 → s.part.hears = true →
    (p.toNat < 4 → c.toNat < 4 → e.toNat < 4 → b.toNat < 4 → m.toNat < 2 →
      ∃ t, exec (.linesSet [tag, p, c, e, b, m]) s = .next t ∧ t.part.link.reply = some ⟨0x92, tag, .ok, []⟩ ∧
        (∀ i, (t.part.lines.get i).raw = (s.part.lines.get i).raw ∧
          let config := match i with | .ptt => p | .call => c | .emerg => e | .batt => b
          ((t.part.lines.get i).polarity = if config.getLsbD 0 = true then .activeLow else .activeHigh) ∧
          (t.part.lines.get i).report = config.getLsbD 1) ∧
        t.part.lines.battMode = (if m = 0 then .digital else .analog) ∧
        t.part.lines.emerg.debounced = s.part.lines.emerg.debounced ∧
        t.part.aff.request = (s.part.aff.request || (t.part.active .emerg && !s.part.active .emerg)) ∧
        t.part.params = s.part.params ∧ t.part.aff.identity = s.part.aff.identity ∧
        t.part.engine.watch0 = s.part.engine.watch0 ∧ t.part.engine.watch1 = s.part.engine.watch1) ∧
    (4 ≤ p.toNat ∨ 4 ≤ c.toNat ∨ 4 ≤ e.toNat ∨ 4 ≤ b.toNat ∨ 2 ≤ m.toNat →
      exec (.linesSet [tag, p, c, e, b, m]) s = .next (s.withPart (s.part.replied ⟨0x92, tag, .badArg, []⟩)))

/-- R173: LINES READ reports the active states and the change-pending set, then takes the debounced levels as
references and clears the marks. -/
def Obligations.LinesReadTakesReferences : Prop :=
  ∀ (s : State) (tag : Byte), tag ≠ 0 → s.part.hears = true →
    ∃ levels pending : Byte,
      (∀ n, n < 8 →
        levels.getLsbD n = ([s.part.active .ptt, s.part.active .call, s.part.active .emerg, s.part.active .batt].getD n
          false) ∧
        pending.getLsbD n = ([s.part.lines.ptt.mark, s.part.lines.call.mark, s.part.lines.emerg.mark,
          s.part.lines.batt.mark].getD n false)) ∧
      exec (.linesRead [tag]) s =
        .next (s.withPart (({ s.part with
          lines.ptt := { s.part.lines.ptt with reference := s.part.lines.ptt.debounced, mark := false }
          lines.call := { s.part.lines.call with reference := s.part.lines.call.debounced, mark := false }
          lines.emerg := { s.part.lines.emerg with reference := s.part.lines.emerg.debounced, mark := false }
          lines.batt := { s.part.lines.batt with reference := s.part.lines.batt.debounced, mark := false } } :
            Part).replied ⟨0x93, tag, .ok, [levels, pending]⟩))

/-- R174 to R176: the battery timer asks for the converter, and a battery conversion judges the condition with
hysteresis; one that ends after ANALOG mode was left is not judged. -/
def Obligations.BatteryIsConvertedAndJudged : Prop :=
  ∀ (s : State) (code : Byte), s.part.settledOutside = true →
    (s.part.lines.battTimer.isSome = true →
      (s.part.conv.state = .idle →
        exec .batteryTimerExpiry s =
          .next (s.withPart { s.part with conv.state := .battery true, lines.battTimer := some 1000 })) ∧
      (s.part.conv.state ≠ .idle → s.part.conv.waiting = none →
        exec .batteryTimerExpiry s =
          .next (s.withPart { s.part with conv.waiting := some .battery, lines.battTimer := none }))) ∧
    (s.part.conv.waiting = none → s.part.conv.state = .battery true →
      (s.part.lines.battery = .normal → s.part.params.battLow ≤ code.toNat →
        exec (.batteryConversionDone code) s = .next (s.withPart { s.part with conv.state := .idle })) ∧
      (s.part.lines.battery = .normal → code.toNat < s.part.params.battLow →
        exec (.batteryConversionDone code) s =
          .next (s.withPart (({ s.part with conv.state := .idle, lines.battery := .low } : Part).queueNotice
            (.battery .low s.part.lines.battMode (some code))).startSending)) ∧
      (s.part.lines.battery = .low → code.toNat < s.part.params.battLow + s.part.params.battHyst →
        exec (.batteryConversionDone code) s = .next (s.withPart { s.part with conv.state := .idle })) ∧
      (s.part.lines.battery = .low → s.part.params.battLow + s.part.params.battHyst ≤ code.toNat →
        exec (.batteryConversionDone code) s =
          .next (s.withPart (({ s.part with conv.state := .idle, lines.battery := .normal } : Part).queueNotice
            (.battery .normal s.part.lines.battMode (some code))).startSending))) ∧
    (s.part.conv.waiting = none → s.part.conv.state = .battery false →
      exec (.batteryConversionDone code) s = .next (s.withPart { s.part with conv.state := .idle }))

/-! ### What every step keeps -/

/-- The part after power-on, with no command waiting, is sound. -/
def Obligations.ResetIsSound : Prop :=
  State.reset.part.settledOutside = true ∧ State.reset.part.tableSound = true ∧
    State.reset.part.receiverSound = true ∧ State.reset.part.queueSound = true

/-- R39, R117, R159, R177, R185: every step keeps MUTE and TXINH as the position and the machine give them, an idle
transmitter without work, and a STEP round alive only with work or a handover of its own. -/
def Obligations.StepsOweNothingBetween : Prop :=
  ∀ s t : State, s.part.settledOutside = true → step s = .next t → t.part.settledOutside = true

/-- R1: every step keeps 24 slots with no site ID twice. -/
def Obligations.StepsKeepTheTableSound : Prop :=
  ∀ s t : State, s.part.tableSound = true → step s = .next t → t.part.tableSound = true

/-- R182, R190, R191, R193: every step keeps at most 16 notices queued with TRANSMIT enabled, and the receiver in HUNT
while its buffer is occupied. -/
def Obligations.StepsKeepTheLinkSound : Prop :=
  ∀ s t : State, s.part.receiverSound = true → s.part.queueSound = true → step s = .next t →
    t.part.receiverSound = true ∧ t.part.queueSound = true

/-- Chapters 7, 9, 10 and 11: only PARAM SET changes a parameter, only IDENTITY the identity, only NOTICES the enable
set, only WATCH SET and WATCH CLEAR the watches, only LINES SET the configuration of the inputs; but for the resets
(RECORD_SENT brings the one that RESET scheduled). A byte on LRX and the end of a reply change these only by the record
that they have interpreted. -/
def Obligations.HostSettingsChangeOnlyByTheirCommands : Prop :=
  (∀ (c : Instr) (s t : State), c ≠ .powerOn → c ≠ .resetLine → c ≠ .recordSent → (∀ b, c ≠ .lrxByte b) →
    exec c s = .next t →
    ((∀ payload, c ≠ .paramSet payload) → t.part.params = s.part.params) ∧
    ((∀ payload, c ≠ .identity payload) → t.part.aff.identity = s.part.aff.identity) ∧
    ((∀ payload, c ≠ .notices payload) → t.part.link.enabled = s.part.link.enabled) ∧
    ((∀ payload, c ≠ .watchSet payload) → (∀ payload, c ≠ .watchClear payload) →
      t.part.engine.watch0 = s.part.engine.watch0 ∧ t.part.engine.watch1 = s.part.engine.watch1) ∧
    ((∀ payload, c ≠ .linesSet payload) →
      t.part.lines.battMode = s.part.lines.battMode ∧
      ∀ i, (t.part.lines.get i).polarity = (s.part.lines.get i).polarity ∧
        (t.part.lines.get i).report = (s.part.lines.get i).report)) ∧
  (∀ (c : Instr) (s t : State), (∃ b, c = .lrxByte b) ∨ (c = .recordSent ∧ s.part.link.resetDue = none) →
    exec c s = .next t →
    s.part.SameSettings t.part ∨
      ∃ kind payload link, link.enabled = s.part.link.enabled ∧
        exec (rowOfRecord kind payload) (s.withPart { s.part with link := link }) = .next t)

end
end

