-- ==== Sys2Proof/Laws/Keeps.lean ====
section
/-! SUPPORT. One lemma per shared operation of the blocks: whatever it does, it keeps what only the host's own
commands, the input lines and the serial link change. -/

namespace Sys2Proof.Machine

/-- What the operations of the blocks keep: the parameters, the number of slots, the identity, the watches, the inputs
with their configuration, and the link but for its notices. -/
abbrev Part.Keeps (p q : Part) : Prop :=
  q.params = p.params ∧ q.table.length = p.table.length ∧ q.aff.identity = p.aff.identity ∧
  q.engine.watch0 = p.engine.watch0 ∧ q.engine.watch1 = p.engine.watch1 ∧
  q.lines.ptt = p.lines.ptt ∧ q.lines.call = p.lines.call ∧ q.lines.emerg = p.lines.emerg ∧
  q.lines.batt = p.lines.batt ∧ q.lines.battMode = p.lines.battMode ∧
  q.link.rx = p.link.rx ∧ q.link.gapTimer = p.link.gapTimer ∧ q.link.buffer = p.link.buffer ∧
  q.link.reply = p.link.reply ∧ q.link.enabled = p.link.enabled ∧ q.link.tx = p.link.tx ∧
  q.link.ltx = p.link.ltx ∧ q.link.resetDue = p.link.resetDue

/-! Ops -/

@[simp] theorem Part.queueNotice_keeps (n : Notice) (p : Part) : p.Keeps (p.queueNotice n) := by
  unfold Part.queueNotice; (repeat' split) <;> simp [Part.Keeps]

@[simp] theorem Part.mapRecords_keeps (f : SiteRecord → SiteRecord) (p : Part) : p.Keeps (p.mapRecords f) := by
  unfold Part.mapRecords; (repeat' split) <;> simp [Part.Keeps]

@[simp] theorem Part.updateRec_keeps (site : Nat) (f : SiteRecord → SiteRecord) (p : Part) :
    p.Keeps (p.updateRec site f) := by
  unfold Part.updateRec; (repeat' split) <;> simp [Part.Keeps]

@[simp] theorem Part.engineNotice_keeps (cause : EngineCause) (slot : Option Nat) (p : Part) :
    p.Keeps (p.engineNotice cause slot) := by
  unfold Part.engineNotice; (repeat' split) <;> simp [Part.Keeps]

@[simp] theorem Part.endRound_keeps (p : Part) : p.Keeps (p.endRound) := by
  unfold Part.endRound; (repeat' split) <;> simp [Part.Keeps]

@[simp] theorem Part.freezeWatch_keeps (slot : Nat) (p : Part) : p.Keeps (p.freezeWatch slot) := by
  unfold Part.freezeWatch; (repeat' split) <;> simp [Part.Keeps]

@[simp] theorem Part.freezeTune_keeps (p : Part) : p.Keeps (p.freezeTune) := by
  unfold Part.freezeTune; (repeat' split) <;> simp [Part.Keeps]

@[simp] theorem Part.offerSlot_keeps (slot : Nat) (watch : Option Watch) (site : Nat) (source : WriteSource) (p : Part) :
    p.Keeps (p.offerSlot slot watch site source) := by
  unfold Part.offerSlot; (repeat' split) <;> simp [Part.Keeps]

@[simp] theorem Part.offerWrite_keeps (site : Nat) (source : WriteSource) (p : Part) :
    p.Keeps (p.offerWrite site source) := by
  unfold Part.offerWrite; (repeat' split) <;> simp [Part.Keeps]

@[simp] theorem Part.selectCheck_keeps (site : Nat) (cause : Cause) (p : Part) :
    p.Keeps (p.selectCheck site cause).2 := by
  unfold Part.selectCheck; (repeat' split) <;> simp [Part.Keeps]

theorem Part.selectCheck_keeps_of {site : Nat} {cause : Cause} {b : Bool} {p q : Part}
    (h : p.selectCheck site cause = (b, q)) : p.Keeps q := by
  have hk := Part.selectCheck_keeps site cause p
  rw [h] at hk
  exact hk

@[simp] theorem Part.startRunning_keeps (cause : EngineCause) (p : Part) : p.Keeps (p.startRunning cause) := by
  unfold Part.startRunning; (repeat' split) <;> simp [Part.Keeps]

@[simp] theorem Part.engineReady_keeps (p : Part) : p.Keeps (p.engineReady) := by
  unfold Part.engineReady; (repeat' split) <;> simp [Part.Keeps]

@[simp] theorem Part.driveOutputs_keeps (p : Part) : p.Keeps (p.driveOutputs) := by
  unfold Part.driveOutputs; simp [Part.Keeps]

@[simp] theorem Part.setMachine_keeps (m : HoState) (p : Part) : p.Keeps (p.setMachine m) := by
  unfold Part.setMachine; simp [Part.Keeps]

/-! Levels -/

@[simp] theorem Part.credit_keeps (site mean : Nat) (p : Part) : p.Keeps (p.credit site mean) := by
  unfold Part.credit; (repeat' split) <;> simp [Part.Keeps]

/-! Table -/

@[simp] theorem Part.unsettle_keeps (site : Nat) (p : Part) : p.Keeps (p.unsettle site) := by
  unfold Part.unsettle; (repeat' split) <;> simp [Part.Keeps]

@[simp] theorem Part.rechannel_keeps (site channel : Nat) (p : Part) : p.Keeps (p.rechannel site channel) := by
  unfold Part.rechannel; (repeat' split) <;> simp [Part.Keeps]

@[simp] theorem Part.removeRec_keeps (site : Nat) (p : Part) : p.Keeps (p.removeRec site) := by
  unfold Part.removeRec; (repeat' split) <;> simp [Part.Keeps]

theorem Part.makeRoom_keeps {keep : List Nat} {p q : Part} {i : Nat} (h : p.makeRoom keep = some (i, q)) :
    p.Keeps q := by
  unfold Part.makeRoom at h
  split at h
  · simp only [Option.some.injEq, Prod.mk.injEq] at h; obtain ⟨-, rfl⟩ := h; simp [Part.Keeps]
  · split at h
    · simp only [Option.some.injEq, Prod.mk.injEq] at h; obtain ⟨-, rfl⟩ := h; simp [Part.Keeps]
    · cases h

@[simp] theorem Part.place_keeps (position : Nat) (r : SiteRecord) (p : Part) : p.Keeps (p.place position r) := by
  unfold Part.place; (repeat' split) <;> simp [Part.Keeps]

theorem Part.learn_keeps {site channel : Nat} {source : LearnSource} {keep : List Nat} {p q : Part}
    (h : p.learn site channel source keep = some q) : p.Keeps q := by
  unfold Part.learn at h
  split at h
  · rename_i i r hr
    have hk := Part.makeRoom_keeps hr
    simp only [Option.some.injEq] at h; subst h; simp_all [Part.Keeps]
  · cases h

@[simp] theorem Part.learnEntry_keeps (entry : Nat × Nat) (x : List Nat × Part) :
    x.2.Keeps (Part.learnEntry entry x).2 := by
  obtain ⟨keep, p⟩ := x
  obtain ⟨site, channel⟩ := entry
  unfold Part.learnEntry
  dsimp only
  split
  · simp [Part.Keeps]
  · split
    · split
      · rename_i h; exact Part.learn_keeps h
      · simp [Part.Keeps]
    · split <;> simp [Part.Keeps]

theorem Part.learnFold_keeps (entries : List (Nat × Nat)) (x : List Nat × Part) :
    x.2.Keeps (entries.foldl (fun x e => Part.learnEntry e x) x).2 := by
  induction entries generalizing x with
  | nil => simp [Part.Keeps]
  | cons e es ih =>
    have h := ih (Part.learnEntry e x)
    have h' := Part.learnEntry_keeps e x
    simp_all [Part.Keeps]

@[simp] theorem Part.learnNeighbours_keeps (entries : List (Nat × Nat)) (p : Part) :
    p.Keeps (p.learnNeighbours entries) := Part.learnFold_keeps entries ([], p)

@[simp] theorem Part.unconfirmOthers_keeps (channel site : Nat) (p : Part) :
    p.Keeps (p.unconfirmOthers channel site) := by
  unfold Part.unconfirmOthers; (repeat' split) <;> simp [Part.Keeps]

@[simp] theorem Part.confirmFromBeacon_keeps (r : SiteRecord) (load : Nat) (p : Part) :
    p.Keeps (p.confirmFromBeacon r load) := by
  unfold Part.confirmFromBeacon; (repeat' split) <;> simp [Part.Keeps]

@[simp] theorem Part.countTable_keeps (p : Part) : p.Keeps (p.countTable) := by
  unfold Part.countTable; (repeat' split) <;> simp [Part.Keeps]

/-! Converter -/

@[simp] theorem Part.mapRun_keeps (f : SampleRun → SampleRun) (p : Part) : p.Keeps (p.mapRun f) := by
  unfold Part.mapRun; (repeat' split) <;> simp [Part.Keeps]

@[simp] theorem Part.takeBattery_keeps (p : Part) : p.Keeps (p.takeBattery) := by
  unfold Part.takeBattery; (repeat' split) <;> simp [Part.Keeps]

@[simp] theorem Part.takeRssi_keeps (p : Part) : p.Keeps (p.takeRssi) := by
  unfold Part.takeRssi; (repeat' split) <;> simp [Part.Keeps]

@[simp] theorem Part.waitConverter_keeps (user : ConvUser) (p : Part) : p.Keeps (p.waitConverter user) := by
  unfold Part.waitConverter; (repeat' split) <;> simp [Part.Keeps]

@[simp] theorem Part.askRssi_keeps (p : Part) : p.Keeps (p.askRssi) := by
  unfold Part.askRssi; (repeat' split) <;> simp [Part.Keeps]

@[simp] theorem Part.askBattery_keeps (p : Part) : p.Keeps (p.askBattery) := by
  unfold Part.askBattery; (repeat' split) <;> simp [Part.Keeps]

@[simp] theorem Part.releaseConverter_keeps (p : Part) : p.Keeps (p.releaseConverter) := by
  unfold Part.releaseConverter; (repeat' split) <;> simp [Part.Keeps]

@[simp] theorem Part.stopRun_keeps (p : Part) : p.Keeps (p.stopRun) := by
  unfold Part.stopRun; dsimp only; (repeat' split) <;> simp [Part.Keeps]

@[simp] theorem Part.passFirstGap_keeps (p : Part) : p.Keeps (p.passFirstGap) := by
  unfold Part.passFirstGap; (repeat' split) <;> simp [Part.Keeps]

@[simp] theorem Part.skipGaps_keeps (p : Part) : p.Keeps (p.skipGaps) := by
  unfold Part.skipGaps; (repeat' split) <;> simp [Part.Keeps]

@[simp] theorem Part.discardBurst_keeps (p : Part) : p.Keeps (p.discardBurst) := by
  unfold Part.discardBurst; (repeat' split) <;> simp [Part.Keeps]

/-! Tuning -/

@[simp] theorem Part.recomputePosition_keeps (p : Part) : p.Keeps (p.recomputePosition) := by
  unfold Part.recomputePosition; dsimp only; (repeat' split) <;> simp [Part.Keeps]

@[simp] theorem Part.startOp_keeps (owner : Owner) (req : TuneReq) (p : Part) : p.Keeps (p.startOp owner req) := by
  unfold Part.startOp; (repeat' split) <;> simp [Part.Keeps]

@[simp] theorem Part.putWaiting_keeps (owner : Owner) (req : TuneReq) (p : Part) :
    p.Keeps (p.putWaiting owner req) := by
  unfold Part.putWaiting; (repeat' split) <;> simp [Part.Keeps]

@[simp] theorem Part.requestTune_keeps (owner : Owner) (req : TuneReq) (p : Part) :
    p.Keeps (p.requestTune owner req) := by
  unfold Part.requestTune; (repeat' split) <;> simp [Part.Keeps]

@[simp] theorem Part.requestReturn_keeps (owner : Owner) (p : Part) : p.Keeps (p.requestReturn owner) := by
  unfold Part.requestReturn; (repeat' split) <;> simp [Part.Keeps]

@[simp] theorem Part.serveClients_keeps (p : Part) : p.Keeps (p.serveClients) := by
  unfold Part.serveClients; (repeat' split) <;> simp [Part.Keeps]

@[simp] theorem Part.makeRetry_keeps (p : Part) : p.Keeps (p.makeRetry) := by
  unfold Part.makeRetry; (repeat' split) <;> simp [Part.Keeps]

@[simp] theorem Part.freeReceiver_keeps (p : Part) : p.Keeps (p.freeReceiver) := by
  unfold Part.freeReceiver; dsimp only; (repeat' split) <;> simp [Part.Keeps]

@[simp] theorem Part.clearWaiting_keeps (owner : Owner) (p : Part) : p.Keeps (p.clearWaiting owner) := by
  unfold Part.clearWaiting; (repeat' split) <;> simp [Part.Keeps]

@[simp] theorem Part.releaseReceiver_keeps (owner : Owner) (p : Part) : p.Keeps (p.releaseReceiver owner) := by
  unfold Part.releaseReceiver; dsimp only; (repeat' split) <;> simp [Part.Keeps]

@[simp] theorem Part.askRetry_keeps (p : Part) : p.Keeps (p.askRetry) := by
  unfold Part.askRetry; (repeat' split) <;> simp [Part.Keeps]

@[simp] theorem Part.shiftOut_keeps (w : TuningWord) (p : Part) : p.Keeps (p.shiftOut w) := by
  simp [Part.shiftOut, Part.Keeps]

@[simp] theorem Part.latch_keeps (op : TuneOp) (p : Part) : p.Keeps (p.latch op) := by
  unfold Part.latch; (repeat' split) <;> simp [Part.Keeps]

@[simp] theorem Part.secondAttempt_keeps (op : TuneOp) (p : Part) : p.Keeps (p.secondAttempt op) := by
  unfold Part.secondAttempt; (repeat' split) <;> simp [Part.Keeps]

@[simp] theorem Part.endReady_keeps (op : TuneOp) (p : Part) : p.Keeps (p.endReady op) := by
  unfold Part.endReady; (repeat' split) <;> simp [Part.Keeps]

@[simp] theorem Part.endFailed_keeps (p : Part) : p.Keeps (p.endFailed) := by
  unfold Part.endFailed; (repeat' split) <;> simp [Part.Keeps]

@[simp] theorem Part.markFault_keeps (p : Part) : p.Keeps (p.markFault) := by
  unfold Part.markFault; (repeat' split) <;> simp [Part.Keeps]

/-! Supervision -/

@[simp] theorem Part.freshMarks_keeps (p : Part) : p.Keeps (p.freshMarks) := by
  unfold Part.freshMarks; (repeat' split) <;> simp [Part.Keeps]

@[simp] theorem Part.startInterval_keeps (p : Part) : p.Keeps (p.startInterval) := by
  unfold Part.startInterval; (repeat' split) <;> simp [Part.Keeps]

@[simp] theorem Part.supBeacon_keeps (site cls : Nat) (p : Part) : p.Keeps (p.supBeacon site cls) := by
  unfold Part.supBeacon; dsimp only; (repeat' split) <;> simp [Part.Keeps]

@[simp] theorem Part.suspend_keeps (p : Part) : p.Keeps (p.suspend) := by
  unfold Part.suspend; (repeat' split) <;> simp [Part.Keeps]

@[simp] theorem Part.resume_keeps (p : Part) : p.Keeps (p.resume) := by
  unfold Part.resume; dsimp only; (repeat' split) <;> simp [Part.Keeps]

@[simp] theorem Part.supRestart_keeps (cls : Option Nat) (p : Part) : p.Keeps (p.supRestart cls) := by
  unfold Part.supRestart; (repeat' split) <;> simp [Part.Keeps]

@[simp] theorem Part.notePtt_keeps (p : Part) : p.Keeps (p.notePtt) := by
  unfold Part.notePtt; (repeat' split) <;> simp [Part.Keeps]

@[simp] theorem Part.noteGap_keeps (p : Part) : p.Keeps (p.noteGap) := by
  unfold Part.noteGap; (repeat' split) <;> simp [Part.Keeps]

@[simp] theorem Part.countCoarse_keeps (site : Nat) (p : Part) : p.Keeps (p.countCoarse site) := by
  unfold Part.countCoarse; dsimp only; (repeat' split) <;> simp [Part.Keeps]

@[simp] theorem Part.countInterval_keeps (site : Nat) (p : Part) : p.Keeps (p.countInterval site) := by
  unfold Part.countInterval; dsimp only; (repeat' split) <;> simp [Part.Keeps]

@[simp] theorem Part.judgeInterval_keeps (site : Nat) (p : Part) : p.Keeps (p.judgeInterval site) := by
  unfold Part.judgeInterval; (repeat' split) <;> simp [Part.Keeps]

@[simp] theorem Part.reduceFine_keeps (p : Part) : p.Keeps (p.reduceFine) := by
  unfold Part.reduceFine; (repeat' split) <;> simp [Part.Keeps]

@[simp] theorem Part.reduceCoarse_keeps (p : Part) : p.Keeps (p.reduceCoarse) := by
  unfold Part.reduceCoarse; (repeat' split) <;> simp [Part.Keeps]

/-! Scheduler -/

@[simp] theorem Part.startHomeGap_keeps (w : RoundWork) (x : Nat × SiteRecord) (fromPending : Bool) (p : Part) :
    p.Keeps (p.startHomeGap w x fromPending) := by
  unfold Part.startHomeGap; (repeat' split) <;> simp [Part.Keeps]

@[simp] theorem Part.considerHomeGap_keeps (p : Part) : p.Keeps (p.considerHomeGap) := by
  unfold Part.considerHomeGap; dsimp only; (repeat' split) <;> simp [Part.Keeps]

@[simp] theorem Part.considerHunt_keeps (p : Part) : p.Keeps (p.considerHunt) := by
  unfold Part.considerHunt; dsimp only; (repeat' split) <;> simp [Part.Keeps]

@[simp] theorem Part.movePointer_keeps (g : Gap) (p : Part) : p.Keeps (p.movePointer g) := by
  unfold Part.movePointer; (repeat' split) <;> simp [Part.Keeps]

@[simp] theorem Part.gapTuneHome_keeps (g : Gap) (p : Part) : p.Keeps (p.gapTuneHome g) := by
  unfold Part.gapTuneHome; (repeat' split) <;> simp [Part.Keeps]

@[simp] theorem Part.abortHomeGap_keeps (p : Part) : p.Keeps (p.abortHomeGap) := by
  unfold Part.abortHomeGap; (repeat' split) <;> simp [Part.Keeps]

@[simp] theorem Part.abortHuntGap_keeps (p : Part) : p.Keeps (p.abortHuntGap) := by
  unfold Part.abortHuntGap; (repeat' split) <;> simp [Part.Keeps]

@[simp] theorem Part.endHomeGapNow_keeps (p : Part) : p.Keeps (p.endHomeGapNow) := by
  unfold Part.endHomeGapNow; (repeat' split) <;> simp [Part.Keeps]

@[simp] theorem Part.schedPtt_keeps (p : Part) : p.Keeps (p.schedPtt) := by
  unfold Part.schedPtt; (repeat' split) <;> simp [Part.Keeps]

@[simp] theorem Part.schedCall_keeps (p : Part) : p.Keeps (p.schedCall) := by
  unfold Part.schedCall; (repeat' split) <;> simp [Part.Keeps]

@[simp] theorem Part.visitFailed_keeps (g : Gap) (noBeacon : Bool) (p : Part) :
    p.Keeps (p.visitFailed g noBeacon) := by
  unfold Part.visitFailed; (repeat' split) <;> simp [Part.Keeps]

@[simp] theorem Part.startBurst_keeps (site : Nat) (p : Part) : p.Keeps (p.startBurst site) := by
  unfold Part.startBurst; (repeat' split) <;> simp [Part.Keeps]

@[simp] theorem Part.requestWork_keeps (p : Part) : p.Keeps (p.requestWork) := by
  unfold Part.requestWork; dsimp only; (repeat' split) <;> simp [Part.Keeps]

/-! Affiliation -/

@[simp] theorem Part.issueTx_keeps (kind : TxKind) (frame : AirFrame) (delay : Nat) (p : Part) :
    p.Keeps (p.issueTx kind frame delay) := by
  unfold Part.issueTx; (repeat' split) <;> simp [Part.Keeps]

@[simp] theorem Part.issueRegister_keeps (ctx : Context) (p : Part) : p.Keeps (p.issueRegister ctx) := by
  unfold Part.issueRegister; (repeat' split) <;> simp [Part.Keeps]

@[simp] theorem Part.enterSend_keeps (ctx : Context) (p : Part) : p.Keeps (p.enterSend ctx) := by
  unfold Part.enterSend; dsimp only; (repeat' split) <;> simp [Part.Keeps]

@[simp] theorem Part.issueDeregister_keeps (p : Part) : p.Keeps (p.issueDeregister) := by
  unfold Part.issueDeregister; (repeat' split) <;> simp [Part.Keeps]

@[simp] theorem Part.goTune_keeps (ctx : Context) (p : Part) : p.Keeps (p.goTune ctx) := by
  unfold Part.goTune; dsimp only; (repeat' split) <;> simp [Part.Keeps]

@[simp] theorem Part.beginHandover_keeps (target : Nat) (cause : Cause) (ofRound : Bool) (p : Part) :
    p.Keeps (p.beginHandover target cause ofRound) := by
  unfold Part.beginHandover; dsimp only; (repeat' split) <;> simp [Part.Keeps]

@[simp] theorem Part.gapEndedReport_keeps (p : Part) : p.Keeps (p.gapEndedReport) := by
  unfold Part.gapEndedReport; (repeat' split) <;> simp [Part.Keeps]

@[simp] theorem Part.makeOrdinary_keeps (old : Option Nat) (p : Part) : p.Keeps (p.makeOrdinary old) := by
  unfold Part.makeOrdinary; (repeat' split) <;> simp [Part.Keeps]

@[simp] theorem Part.goNone_keeps (cause : NoServiceCause) (p : Part) : p.Keeps (p.goNone cause) := by
  unfold Part.goNone; (repeat' split) <;> simp [Part.Keeps]

/-! Engine -/

@[simp] theorem Part.selectForLoss_keeps (p : Part) : p.Keeps p.selectForLoss := by
  unfold Part.selectForLoss
  split
  · dsimp only; split <;> simp [Part.Keeps]
  · split <;> (rename_i h; have hk := Part.selectCheck_keeps_of h; simp_all [Part.Keeps])

@[simp] theorem Part.raiseLoss_keeps (p : Part) : p.Keeps (p.raiseLoss) := by
  unfold Part.raiseLoss; (repeat' split) <;> simp [Part.Keeps]

@[simp] theorem Part.reportLost_keeps (p : Part) : p.Keeps (p.reportLost) := by
  unfold Part.reportLost; (repeat' split) <;> simp [Part.Keeps]

@[simp] theorem Part.endEvent_keeps (ctx : Context) (p : Part) : p.Keeps (p.endEvent ctx) := by
  unfold Part.endEvent; (repeat' split) <;> simp [Part.Keeps]

@[simp] theorem Part.selectAgain_keeps (ctx : Context) (p : Part) : p.Keeps (p.selectAgain ctx) := by
  unfold Part.selectAgain
  dsimp only
  split
  · split
    · simp [Part.Keeps]
    · split <;> (rename_i h; have hk := Part.selectCheck_keeps_of h; simp_all [Part.Keeps])
  · simp [Part.Keeps]

@[simp] theorem Part.handOff_keeps (site : Nat) (cause : Cause) (p : Part) : p.Keeps (p.handOff site cause) := by
  unfold Part.handOff
  split <;> (rename_i h; have hk := Part.selectCheck_keeps_of h; simp_all [Part.Keeps])

@[simp] theorem Part.judge_keeps (serving : SiteRecord) (l : Level) (p : Part) : p.Keeps (p.judge serving l) := by
  unfold Part.judge; dsimp only; (repeat' split) <;> simp [Part.Keeps]

@[simp] theorem Part.evaluate_keeps (p : Part) : p.Keeps (p.evaluate) := by
  unfold Part.evaluate; (repeat' split) <;> simp [Part.Keeps]

@[simp] theorem Part.countRound_keeps (p : Part) : p.Keeps (p.countRound) := by
  unfold Part.countRound; (repeat' split) <;> simp [Part.Keeps]

@[simp] theorem Part.round_keeps (p : Part) : p.Keeps (p.round) := by
  unfold Part.round; dsimp only; (repeat' split) <;> simp [Part.Keeps]

@[simp] theorem Part.endStepRound_keeps (p : Part) : p.Keeps (p.endStepRound) := by
  unfold Part.endStepRound; (repeat' split) <;> simp [Part.Keeps]

/-! Handover -/

@[simp] theorem Part.failHandover_keeps (ctx : Context) (reason : FailReason) (refuse : Option RefuseReason) (retry : Nat) (p : Part) :
    p.Keeps (p.failHandover ctx reason refuse retry) := by
  unfold Part.failHandover; (repeat' split) <;> simp [Part.Keeps]

@[simp] theorem Part.leaveOld_keeps (old : Option Nat) (cause : Cause) (p : Part) :
    p.Keeps (p.leaveOld old cause) := by
  unfold Part.leaveOld; (repeat' split) <;> simp [Part.Keeps]

@[simp] theorem Part.succeedHandover_keeps (ctx : Context) (slot : Option Nat) (sense : Sense) (p : Part) :
    p.Keeps (p.succeedHandover ctx slot sense) := by
  unfold Part.succeedHandover; (repeat' split) <;> simp [Part.Keeps]

@[simp] theorem Part.endReturn_keeps (p : Part) : p.Keeps (p.endReturn) := by
  unfold Part.endReturn; (repeat' split) <;> simp [Part.Keeps]

@[simp] theorem Part.affPtt_keeps (p : Part) : p.Keeps (p.affPtt) := by
  unfold Part.affPtt; (repeat' split) <;> simp [Part.Keeps]

@[simp] theorem Part.issueWaiting_keeps (p : Part) : p.Keeps (p.issueWaiting) := by
  unfold Part.issueWaiting; (repeat' split) <;> simp [Part.Keeps]

@[simp] theorem Part.registerEnded_keeps (outcome : TxOutcome) (p : Part) : p.Keeps (p.registerEnded outcome) := by
  unfold Part.registerEnded; (repeat' split) <;> simp [Part.Keeps]

@[simp] theorem Part.reportEnded_keeps (frame : AirFrame) (outcome : TxOutcome) (p : Part) :
    p.Keeps (p.reportEnded frame outcome) := by
  unfold Part.reportEnded; (repeat' split) <;> simp [Part.Keeps]

@[simp] theorem Part.endTx_keeps (tx : TxReq) (outcome : TxOutcome) (p : Part) : p.Keeps (p.endTx tx outcome) := by
  unfold Part.endTx; (repeat' split) <;> simp [Part.Keeps]

@[simp] theorem Part.rollCall_keeps (site : Nat) (p : Part) : p.Keeps (p.rollCall site) := by
  unfold Part.rollCall; (repeat' split) <;> simp [Part.Keeps]

@[simp] theorem Part.statusQuery_keeps (site : Nat) (p : Part) : p.Keeps (p.statusQuery site) := by
  unfold Part.statusQuery; (repeat' split) <;> simp [Part.Keeps]

@[simp] theorem Part.refuseDirect_keeps (target : Nat) (reason : DirectReason) (p : Part) :
    p.Keeps (p.refuseDirect target reason) := by
  unfold Part.refuseDirect; (repeat' split) <;> simp [Part.Keeps]

@[simp] theorem Part.direct_keeps (target channel : Nat) (p : Part) : p.Keeps (p.direct target channel) := by
  unfold Part.direct
  split; · simp [Part.Keeps]
  split; · simp [Part.Keeps]
  split; · simp [Part.Keeps]
  split
  · split
    · rename_i h; have hk := Part.learn_keeps h; simp_all [Part.Keeps]
    · simp [Part.Keeps]
  · split; · simp [Part.Keeps]
    split; · simp [Part.Keeps]
    split; · simp [Part.Keeps]
    split <;> (rename_i h; have hk := Part.selectCheck_keeps_of h; simp_all [Part.Keeps])

@[simp] theorem Part.release_keeps (site retry : Nat) (p : Part) : p.Keeps (p.release site retry) := by
  unfold Part.release; (repeat' split) <;> simp [Part.Keeps]

/-! Measure -/

@[simp] theorem Part.offerAcquire_keeps (site : Nat) (inStep : Bool) (p : Part) :
    p.Keeps (p.offerAcquire site inStep) := by
  unfold Part.offerAcquire
  split
  · split
    · split <;> (rename_i h; have hk := Part.selectCheck_keeps_of h; simp_all [Part.Keeps])
    · simp [Part.Keeps]
  · simp [Part.Keeps]

@[simp] theorem Part.endHomeGap_keeps (p : Part) : p.Keeps (p.endHomeGap) := by
  unfold Part.endHomeGap; (repeat' split) <;> simp [Part.Keeps]

@[simp] theorem Part.endHuntGap_keeps (g : Gap) (offer : Option Nat) (p : Part) : p.Keeps (p.endHuntGap g offer) := by
  unfold Part.endHuntGap; (repeat' split) <;> simp [Part.Keeps]

@[simp] theorem Part.creditGap_keeps (g : Gap) (p : Part) : p.Keeps (p.creditGap g) := by
  unfold Part.creditGap; (repeat' split) <;> simp [Part.Keeps]

@[simp] theorem Part.failGap_keeps (g : Gap) (noBeacon : Bool) (p : Part) : p.Keeps (p.failGap g noBeacon) := by
  unfold Part.failGap; (repeat' split) <;> simp [Part.Keeps]

@[simp] theorem Part.gapSampled_keeps (g : Gap) (p : Part) : p.Keeps (p.gapSampled g) := by
  unfold Part.gapSampled; (repeat' split) <;> simp [Part.Keeps]

@[simp] theorem Part.endBurst_keeps (b : Burst) (p : Part) : p.Keeps (p.endBurst b) := by
  unfold Part.endBurst; (repeat' split) <;> simp [Part.Keeps]

@[simp] theorem Part.runComplete_keeps (p : Part) : p.Keeps (p.runComplete) := by
  unfold Part.runComplete; (repeat' split) <;> simp [Part.Keeps]

@[simp] theorem Part.takeSample_keeps (code : Byte) (p : Part) : p.Keeps (p.takeSample code) := by
  unfold Part.takeSample; dsimp only; (repeat' split) <;> simp [Part.Keeps]

@[simp] theorem Part.noteBeacon_keeps (g : Gap) (site : Nat) (p : Part) : p.Keeps (p.noteBeacon g site) := by
  unfold Part.noteBeacon; dsimp only; (repeat' split) <;> simp [Part.Keeps]

@[simp] theorem Part.schedReady_keeps (p : Part) : p.Keeps (p.schedReady) := by
  unfold Part.schedReady; (repeat' split) <;> simp [Part.Keeps]

@[simp] theorem Part.schedFailed_keeps (p : Part) : p.Keeps (p.schedFailed) := by
  unfold Part.schedFailed; (repeat' split) <;> simp [Part.Keeps]

/-! Air -/

@[simp] theorem Part.beaconWrites_keeps (b : Beacon) (p : Part) : p.Keeps (p.beaconWrites b) := by
  unfold Part.beaconWrites
  split
  · split <;> simp [Part.Keeps]
  · split
    · split
      · simp [Part.Keeps]
      · split
        · rename_i h; have hk := Part.learn_keeps h; simp_all [Part.Keeps]
        · simp [Part.Keeps]
    · simp [Part.Keeps]

@[simp] theorem Part.targetBeacon_keeps (ctx : Context) (b : Beacon) (p : Part) : p.Keeps (p.targetBeacon ctx b) := by
  unfold Part.targetBeacon; (repeat' split) <;> simp [Part.Keeps]

@[simp] theorem Part.handOnBeacon_keeps (b : Beacon) (p : Part) : p.Keeps (p.handOnBeacon b) := by
  unfold Part.handOnBeacon; (repeat' split) <;> simp [Part.Keeps]

@[simp] theorem Part.takeBeacon_keeps (b : Beacon) (p : Part) : p.Keeps (p.takeBeacon b) := by
  unfold Part.takeBeacon; (repeat' split) <;> simp [Part.Keeps]

@[simp] theorem Part.takeFrame_keeps (frame : AirFrame) (p : Part) : p.Keeps (p.takeFrame frame) := by
  unfold Part.takeFrame; (repeat' split) <;> simp [Part.Keeps]

/-! Line monitor: the operations that leave the inputs alone. -/

@[simp] theorem Part.setBattery_keeps (condition : BattCondition) (code : Option Byte) (p : Part) :
    p.Keeps (p.setBattery condition code) := by
  unfold Part.setBattery; (repeat' split) <;> simp [Part.Keeps]

@[simp] theorem Part.judgeDigital_keeps (p : Part) : p.Keeps (p.judgeDigital) := by
  unfold Part.judgeDigital; (repeat' split) <;> simp [Part.Keeps]

@[simp] theorem Part.judgeCode_keeps (code : Byte) (p : Part) : p.Keeps (p.judgeCode code) := by
  unfold Part.judgeCode; (repeat' split) <;> simp [Part.Keeps]

@[simp] theorem Part.becameActive_keeps (i : Input) (p : Part) : p.Keeps (p.becameActive i) := by
  unfold Part.becameActive; (repeat' split) <;> simp [Part.Keeps]

@[simp] theorem Part.becameInactive_keeps (i : Input) (p : Part) : p.Keeps (p.becameInactive i) := by
  unfold Part.becameInactive; (repeat' split) <;> simp [Part.Keeps]

@[simp] theorem Part.activeChange_keeps (i : Input) (was : Bool) (p : Part) : p.Keeps (p.activeChange i was) := by
  unfold Part.activeChange; (repeat' split) <;> simp [Part.Keeps]

@[simp] theorem Part.toAnalog_keeps (p : Part) : p.Keeps (p.toAnalog) := by
  unfold Part.toAnalog; (repeat' split) <;> simp [Part.Keeps]

end Sys2Proof.Machine
end

