-- ==== Sys2Proof/Laws/State.lean ====
section
/-! SUPPORT. One lemma per field per update of the state, so that no proof unfolds a record update. -/

namespace Sys2Proof.Machine

/-! ### The state -/

@[simp] theorem State.withPart_part (s : State) (p : Part) : (s.withPart p).part = p := rfl
@[simp] theorem State.withPart_pending (s : State) (p : Part) : (s.withPart p).pending = s.pending := rfl
@[simp] theorem State.withPart_withPart (s : State) (p q : Part) : (s.withPart p).withPart q = s.withPart q := rfl
@[simp] theorem State.withPart_self (s : State) : s.withPart s.part = s := rfl

/-! ### A reply -/

@[simp] theorem Part.replied_params (r : Reply) (p : Part) : (p.replied r).params = p.params := rfl
@[simp] theorem Part.replied_table (r : Reply) (p : Part) : (p.replied r).table = p.table := rfl
@[simp] theorem Part.replied_tuning (r : Reply) (p : Part) : (p.replied r).tuning = p.tuning := rfl
@[simp] theorem Part.replied_sched (r : Reply) (p : Part) : (p.replied r).sched = p.sched := rfl
@[simp] theorem Part.replied_engine (r : Reply) (p : Part) : (p.replied r).engine = p.engine := rfl
@[simp] theorem Part.replied_sup (r : Reply) (p : Part) : (p.replied r).sup = p.sup := rfl
@[simp] theorem Part.replied_aff (r : Reply) (p : Part) : (p.replied r).aff = p.aff := rfl
@[simp] theorem Part.replied_lines (r : Reply) (p : Part) : (p.replied r).lines = p.lines := rfl
@[simp] theorem Part.replied_conv (r : Reply) (p : Part) : (p.replied r).conv = p.conv := rfl
@[simp] theorem Part.replied_reply (r : Reply) (p : Part) : (p.replied r).link.reply = some r := rfl
@[simp] theorem Part.replied_tx (r : Reply) (p : Part) :
    (p.replied r).link.tx = if p.link.tx = .idle then .reply r.bytes else p.link.tx := rfl
@[simp] theorem Part.replied_ltx (r : Reply) (p : Part) :
    (p.replied r).link.ltx = if p.link.tx = .idle then recordLevels r.bytes else p.link.ltx := rfl
@[simp] theorem Part.replied_buffer (r : Reply) (p : Part) : (p.replied r).link.buffer = none := rfl
@[simp] theorem Part.replied_notices (r : Reply) (p : Part) : (p.replied r).link.notices = p.link.notices := rfl
@[simp] theorem Part.replied_enabled (r : Reply) (p : Part) : (p.replied r).link.enabled = p.link.enabled := rfl
@[simp] theorem Part.replied_freeCount (r : Reply) (p : Part) : (p.replied r).freeCount = p.freeCount := rfl

/-! ### A shift carried out -/

@[simp] theorem Part.shiftOut_params (w : TuningWord) (p : Part) : (p.shiftOut w).params = p.params := rfl
@[simp] theorem Part.shiftOut_table (w : TuningWord) (p : Part) : (p.shiftOut w).table = p.table := rfl
@[simp] theorem Part.shiftOut_sched (w : TuningWord) (p : Part) : (p.shiftOut w).sched = p.sched := rfl
@[simp] theorem Part.shiftOut_engine (w : TuningWord) (p : Part) : (p.shiftOut w).engine = p.engine := rfl
@[simp] theorem Part.shiftOut_sup (w : TuningWord) (p : Part) : (p.shiftOut w).sup = p.sup := rfl
@[simp] theorem Part.shiftOut_aff (w : TuningWord) (p : Part) : (p.shiftOut w).aff = p.aff := rfl
@[simp] theorem Part.shiftOut_lines (w : TuningWord) (p : Part) : (p.shiftOut w).lines = p.lines := rfl
@[simp] theorem Part.shiftOut_conv (w : TuningWord) (p : Part) : (p.shiftOut w).conv = p.conv := rfl
@[simp] theorem Part.shiftOut_link (w : TuningWord) (p : Part) : (p.shiftOut w).link = p.link := rfl
@[simp] theorem Part.shiftOut_freeCount (w : TuningWord) (p : Part) : (p.shiftOut w).freeCount = p.freeCount := rfl
@[simp] theorem Part.shiftOut_op (w : TuningWord) (p : Part) :
    (p.shiftOut w).tuning.op = p.tuning.op := rfl
@[simp] theorem Part.shiftOut_tuned (w : TuningWord) (p : Part) :
    (p.shiftOut w).tuning.tuned = p.tuning.tuned := rfl
@[simp] theorem Part.shiftOut_position (w : TuningWord) (p : Part) :
    (p.shiftOut w).tuning.position = p.tuning.position := rfl
@[simp] theorem Part.shiftOut_holder (w : TuningWord) (p : Part) :
    (p.shiftOut w).tuning.holder = p.tuning.holder := rfl
@[simp] theorem Part.shiftOut_waitSched (w : TuningWord) (p : Part) :
    (p.shiftOut w).tuning.waitSched = p.tuning.waitSched := rfl
@[simp] theorem Part.shiftOut_waitAff (w : TuningWord) (p : Part) :
    (p.shiftOut w).tuning.waitAff = p.tuning.waitAff := rfl
@[simp] theorem Part.shiftOut_retryWaiting (w : TuningWord) (p : Part) :
    (p.shiftOut w).tuning.retryWaiting = p.tuning.retryWaiting := rfl
@[simp] theorem Part.shiftOut_fault (w : TuningWord) (p : Part) :
    (p.shiftOut w).tuning.fault = p.tuning.fault := rfl
@[simp] theorem Part.shiftOut_pins (w : TuningWord) (p : Part) : (p.shiftOut w).tuning.pins = .low := rfl
@[simp] theorem Part.shiftOut_driven (w : TuningWord) (p : Part) : (p.shiftOut w).tuning.driven = shiftLevels w := rfl

/-! ### The outputs -/

@[simp] theorem Part.driveOutputs_params (p : Part) : p.driveOutputs.params = p.params := rfl
@[simp] theorem Part.driveOutputs_table (p : Part) : p.driveOutputs.table = p.table := rfl
@[simp] theorem Part.driveOutputs_tuning (p : Part) : p.driveOutputs.tuning = p.tuning := rfl
@[simp] theorem Part.driveOutputs_sched (p : Part) : p.driveOutputs.sched = p.sched := rfl
@[simp] theorem Part.driveOutputs_engine (p : Part) : p.driveOutputs.engine = p.engine := rfl
@[simp] theorem Part.driveOutputs_sup (p : Part) : p.driveOutputs.sup = p.sup := rfl
@[simp] theorem Part.driveOutputs_aff (p : Part) : p.driveOutputs.aff = p.aff := rfl
@[simp] theorem Part.driveOutputs_conv (p : Part) : p.driveOutputs.conv = p.conv := rfl
@[simp] theorem Part.driveOutputs_link (p : Part) : p.driveOutputs.link = p.link := rfl
@[simp] theorem Part.driveOutputs_freeCount (p : Part) : p.driveOutputs.freeCount = p.freeCount := rfl
@[simp] theorem Part.driveOutputs_lines_ptt (p : Part) : p.driveOutputs.lines.ptt = p.lines.ptt := rfl
@[simp] theorem Part.driveOutputs_lines_call (p : Part) : p.driveOutputs.lines.call = p.lines.call := rfl
@[simp] theorem Part.driveOutputs_lines_emerg (p : Part) : p.driveOutputs.lines.emerg = p.lines.emerg := rfl
@[simp] theorem Part.driveOutputs_lines_batt (p : Part) : p.driveOutputs.lines.batt = p.lines.batt := rfl
@[simp] theorem Part.driveOutputs_lines_battMode (p : Part) : p.driveOutputs.lines.battMode = p.lines.battMode := rfl
@[simp] theorem Part.driveOutputs_lines_battery (p : Part) : p.driveOutputs.lines.battery = p.lines.battery := rfl
@[simp] theorem Part.driveOutputs_lines_battTimer (p : Part) : p.driveOutputs.lines.battTimer = p.lines.battTimer := rfl
@[simp] theorem Part.setMachine_params (m : HoState) (p : Part) : (p.setMachine m).params = p.params := rfl
@[simp] theorem Part.setMachine_table (m : HoState) (p : Part) : (p.setMachine m).table = p.table := rfl
@[simp] theorem Part.setMachine_tuning (m : HoState) (p : Part) : (p.setMachine m).tuning = p.tuning := rfl
@[simp] theorem Part.setMachine_sched (m : HoState) (p : Part) : (p.setMachine m).sched = p.sched := rfl
@[simp] theorem Part.setMachine_engine (m : HoState) (p : Part) : (p.setMachine m).engine = p.engine := rfl
@[simp] theorem Part.setMachine_sup (m : HoState) (p : Part) : (p.setMachine m).sup = p.sup := rfl
@[simp] theorem Part.setMachine_conv (m : HoState) (p : Part) : (p.setMachine m).conv = p.conv := rfl
@[simp] theorem Part.setMachine_link (m : HoState) (p : Part) : (p.setMachine m).link = p.link := rfl
@[simp] theorem Part.setMachine_aff (m : HoState) (p : Part) :
    (p.setMachine m).aff = { p.aff with machine := m } := rfl

/-! ### A gap sent home -/

@[simp] theorem Part.sentHome_params (g : Gap) (home : Nat) (p : Part) : (p.sentHome g home).params = p.params := rfl
@[simp] theorem Part.sentHome_table (g : Gap) (home : Nat) (p : Part) : (p.sentHome g home).table = p.table := rfl
@[simp] theorem Part.sentHome_engine (g : Gap) (home : Nat) (p : Part) : (p.sentHome g home).engine = p.engine := rfl
@[simp] theorem Part.sentHome_sup (g : Gap) (home : Nat) (p : Part) : (p.sentHome g home).sup = p.sup := rfl
@[simp] theorem Part.sentHome_aff (g : Gap) (home : Nat) (p : Part) : (p.sentHome g home).aff = p.aff := rfl
@[simp] theorem Part.sentHome_lines (g : Gap) (home : Nat) (p : Part) : (p.sentHome g home).lines = p.lines := rfl
@[simp] theorem Part.sentHome_conv (g : Gap) (home : Nat) (p : Part) : (p.sentHome g home).conv = p.conv := rfl
@[simp] theorem Part.sentHome_link (g : Gap) (home : Nat) (p : Part) : (p.sentHome g home).link = p.link := rfl
@[simp] theorem Part.sentHome_gap (g : Gap) (home : Nat) (p : Part) :
    (p.sentHome g home).sched = { p.sched with gap := some g.goneHome } := rfl

/-! ### An input line set -/

@[simp] theorem Lines.get_set_self (l : Lines) (i : Input) (x : InputLine) : (l.set i x).get i = x := by
  cases i <;> rfl

theorem Lines.get_set_other (l : Lines) (i j : Input) (x : InputLine) (h : j ≠ i) : (l.set i x).get j = l.get j := by
  cases i <;> cases j <;> first | rfl | exact absurd rfl h

@[simp] theorem Lines.set_battMode (l : Lines) (i : Input) (x : InputLine) : (l.set i x).battMode = l.battMode := by
  cases i <;> rfl
@[simp] theorem Lines.set_battery (l : Lines) (i : Input) (x : InputLine) : (l.set i x).battery = l.battery := by
  cases i <;> rfl
@[simp] theorem Lines.set_battTimer (l : Lines) (i : Input) (x : InputLine) : (l.set i x).battTimer = l.battTimer := by
  cases i <;> rfl
@[simp] theorem Lines.set_mute (l : Lines) (i : Input) (x : InputLine) : (l.set i x).mute = l.mute := by
  cases i <;> rfl
@[simp] theorem Lines.set_txinh (l : Lines) (i : Input) (x : InputLine) : (l.set i x).txinh = l.txinh := by
  cases i <;> rfl

@[simp] theorem Part.setInput_lines (i : Input) (x : InputLine) (p : Part) :
    (p.setInput i x).lines = p.lines.set i x := rfl
@[simp] theorem Part.setInput_params (i : Input) (x : InputLine) (p : Part) : (p.setInput i x).params = p.params := rfl
@[simp] theorem Part.setInput_table (i : Input) (x : InputLine) (p : Part) : (p.setInput i x).table = p.table := rfl
@[simp] theorem Part.setInput_tuning (i : Input) (x : InputLine) (p : Part) : (p.setInput i x).tuning = p.tuning := rfl
@[simp] theorem Part.setInput_sched (i : Input) (x : InputLine) (p : Part) : (p.setInput i x).sched = p.sched := rfl
@[simp] theorem Part.setInput_engine (i : Input) (x : InputLine) (p : Part) : (p.setInput i x).engine = p.engine := rfl
@[simp] theorem Part.setInput_sup (i : Input) (x : InputLine) (p : Part) : (p.setInput i x).sup = p.sup := rfl
@[simp] theorem Part.setInput_aff (i : Input) (x : InputLine) (p : Part) : (p.setInput i x).aff = p.aff := rfl
@[simp] theorem Part.setInput_conv (i : Input) (x : InputLine) (p : Part) : (p.setInput i x).conv = p.conv := rfl
@[simp] theorem Part.setInput_link (i : Input) (x : InputLine) (p : Part) : (p.setInput i x).link = p.link := rfl

end Sys2Proof.Machine
end

