-- ==== Sys2Proof/Laws/Link.lean ====
section
/-! SUPPORT. What the shared operations of the link interface do: the end of a step, a reply, a notice. -/

namespace Sys2Proof.Machine

/-- What a notice leaves alone: everything but the queue, the lost mark and the count of free values. -/
@[simp] theorem Part.queueNotice_blocks (n : Notice) (p : Part) :
    (p.queueNotice n).table = p.table ∧ (p.queueNotice n).tuning = p.tuning ∧ (p.queueNotice n).sched = p.sched ∧
      (p.queueNotice n).engine = p.engine ∧ (p.queueNotice n).sup = p.sup ∧ (p.queueNotice n).aff = p.aff ∧
      (p.queueNotice n).lines = p.lines ∧ (p.queueNotice n).conv = p.conv := by
  unfold Part.queueNotice; (repeat' split) <;> simp

/-- A live STEP round, or none, is left alone. -/
theorem Part.endStepRound_of_live {p : Part} (h : p.stepRoundLive = true) : p.endStepRound = p := by
  unfold Part.endStepRound
  simp only [Part.stepRoundLive, Bool.or_eq_true, Bool.not_eq_true'] at h
  rw [if_neg]
  simp only [Bool.and_eq_true, Bool.not_eq_true']
  rintro ⟨⟨h1, h2⟩, h3⟩
  rcases h with (h | h) | h
  · simp [h] at h1
  · simp [Option.isSome_iff_ne_none] at h; simp_all
  · simp [h] at h3

/-- Outputs that stand as they should are left alone. -/
theorem Part.driveOutputs_of_driven {p : Part} (h : p.outputsDriven = true) : p.driveOutputs = p := by
  simp only [Part.outputsDriven, Bool.and_eq_true, beq_iff_eq] at h
  unfold Part.driveOutputs
  simp only [← h.1, ← h.2, if_true]

/-- Whatever the outputs were, they stand driven afterwards. -/
theorem Part.driveOutputs_driven (p : Part) : p.driveOutputs.outputsDriven = true := by
  simp [Part.outputsDriven, Part.driveOutputs]

/-- Driving the outputs twice is driving them once. -/
theorem Part.driveOutputs_twice (p : Part) : p.driveOutputs.driveOutputs = p.driveOutputs :=
  Part.driveOutputs_of_driven p.driveOutputs_driven

/-- A transmitter that is busy or has nothing waiting is left alone. -/
theorem Part.startSending_of_fed {p : Part} (h : p.transmitterFed = true) : p.startSending = p := by
  unfold Part.startSending
  simp only [Part.transmitterFed, Bool.or_eq_true, Bool.and_eq_true, bne_iff_ne, ne_eq] at h
  split
  · rename_i ht
    rcases h with h | ⟨h1, h2⟩
    · exact absurd ht h
    · simp only [Option.isNone_iff_eq_none, List.isEmpty_iff] at h1 h2
      simp [h1, h2]
  · rfl

/-- A settled part owes nothing at the end of a step. -/
theorem Part.finish_of_settled {p : Part} (h : p.settledOutside = true) : p.finish = p := by
  simp only [Part.settledOutside, Bool.and_eq_true] at h
  unfold Part.finish
  rw [Part.endStepRound_of_live h.1.1, Part.startSending_of_fed h.1.2, Part.driveOutputs_of_driven h.2]

/-- The end of a step finds nothing left to do after another one. -/
theorem Part.finish_twice (p : Part) : p.finish.finish = p.finish := by
  have live : p.endStepRound.stepRoundLive = true := by
    unfold Part.endStepRound
    split
    · simp [Part.stepRoundLive, Part.engineNotice]
    · rename_i h
      simp only [Part.stepRoundLive, Bool.or_eq_true, Bool.not_eq_true']
      cases h1 : p.engine.stepFlag <;> cases h2 : p.sched.work <;> simp_all
  have fed (q : Part) : q.startSending.transmitterFed = true := by
    unfold Part.startSending Part.transmitterFed
    (repeat' split) <;> simp_all
  have keep (q : Part) : q.startSending.engine = q.engine ∧ q.startSending.sched = q.sched ∧
      q.startSending.aff = q.aff := by
    unfold Part.startSending; (repeat' split) <;> simp
  refine Part.finish_of_settled ?_
  simp only [Part.settledOutside, Bool.and_eq_true]
  refine ⟨⟨?_, fed _⟩, Part.driveOutputs_driven _⟩
  obtain ⟨h1, h2, h3⟩ := keep p.endStepRound
  simp only [Part.stepRoundLive, Part.finish, Part.driveOutputs_engine, Part.driveOutputs_sched,
    Part.driveOutputs_aff, h1, h2, h3] at live ⊢
  exact live

/-- An interpretation that is complete owes nothing at the end of its step. -/
theorem Part.placeReply_finish (r : Reply) (p : Part) : (p.placeReply r).finish = p.placeReply r :=
  Part.finish_twice _

/-- An interpretation that is complete, on a part with no STEP round to end and its outputs driven. -/
theorem Part.placeReply_eq {p : Part} (r : Reply) (h1 : p.stepRoundLive = true) (h2 : p.outputsDriven = true) :
    p.placeReply r = p.replied r := by
  unfold Part.placeReply Part.finish
  rw [Part.endStepRound_of_live (by exact h1)]
  unfold Part.startSending Part.replied
  split
  · rename_i ht
    rw [Part.driveOutputs_of_driven (by exact h2)]
    simp_all
  · rename_i ht
    rw [Part.driveOutputs_of_driven (by exact h2)]
    have : p.link.tx ≠ .idle := fun h => ht h
    simp [this]

/-- A record that is heard is interpreted. -/
theorem Part.interpret_of_hears {p : Part} {item : RxItem} {f : Part → Part × Reply} (h : p.hears = true) :
    p.interpret item f = (f p).1.placeReply (f p).2 := by
  simp only [Part.hears, Bool.and_eq_true, Option.isNone_iff_eq_none] at h
  simp [Part.interpret, h.1.2, h.2]

/-- A command with a tag that is heard. -/
theorem Part.command_of_hears {p : Part} {kind tag : Byte} {args : List Byte} {f : List Byte → Part → Answer}
    (h : p.hears = true) (ht : tag ≠ 0) :
    p.command kind (tag :: args) f =
      (f args p).part.placeReply ⟨kind + 0x80, tag, (f args p).code, (f args p).data⟩ := by
  unfold Part.command
  rw [Part.interpret_of_hears h]
  simp only [answerCommand, if_neg ht]

theorem Part.hears_live {p : Part} (h : p.hears = true) : p.stepRoundLive = true := by
  simp only [Part.hears, Part.settledOutside, Bool.and_eq_true] at h; exact h.1.1.1.1

theorem Part.hears_driven {p : Part} (h : p.hears = true) : p.outputsDriven = true := by
  simp only [Part.hears, Part.settledOutside, Bool.and_eq_true] at h; exact h.1.1.2

/-- Nothing is interpreted while the receive buffer is empty (R182). -/
theorem Part.interpretDue_empty {p : Part} (h : p.link.buffer = none) : p.interpretDue = p := by
  unfold Part.interpretDue
  split <;> simp_all

/-- Nothing is interpreted while the reply slot is full (R182). -/
theorem Part.interpretDue_full {p : Part} {r : Reply} (h : p.link.reply = some r) : p.interpretDue = p := by
  unfold Part.interpretDue
  split <;> simp_all

/-- The machine's changes leave what the outputs do not read (R116). -/
theorem Part.setMachine_eq (m : HoState) (p : Part) : p.setMachine m = ({ p with aff.machine := m } : Part).driveOutputs :=
  rfl

/-- The outputs away from HOME: MUTE is asserted, with its change counted, and TXINH by the machine (R39, R117). -/
theorem Part.driveOutputs_away {p : Part} (h : p.tuning.position ≠ .home) :
    p.driveOutputs =
      { p with
        lines.mute := true
        lines.txinh := !p.aff.machine.atRest
        lines.muteEdges := if p.lines.mute then p.lines.muteEdges else p.lines.muteEdges + 1 } := by
  have hp : (p.tuning.position == .home) = false := by simpa using h
  unfold Part.driveOutputs
  simp only [hp, Bool.false_and, Bool.not_false]
  cases p.lines.mute <;> simp

/-- A notice of a kind that is not enabled changes nothing (R191). -/
theorem Part.queueNotice_disabled {p : Part} {n : Notice} (h : noticeEnabled p.link.enabled n = false) :
    p.queueNotice n = p := by
  simp [Part.queueNotice, h]

/-- A notice of an enabled kind that finds room joins the back with the lost mark's flag (R191). -/
theorem Part.queueNotice_room {p : Part} {n : Notice} (h : noticeEnabled p.link.enabled n = true)
    (hr : p.link.notices.length < 16) :
    p.queueNotice n = { p with link.notices := p.link.notices ++ [⟨n, p.link.lost⟩], link.lost := false } := by
  simp [Part.queueNotice, h, hr]

/-- A notice of an enabled kind other than TRANSMIT that finds the queue full is lost (R192). -/
theorem Part.queueNotice_full {p : Part} {n : Notice} (h : noticeEnabled p.link.enabled n = true)
    (hf : ¬ p.link.notices.length < 16) (ht : n.isTransmit = false) :
    p.queueNotice n = { p with link.lost := true } := by
  simp [Part.queueNotice, h, hf, ht]

end Sys2Proof.Machine
end

