-- ==== Sys2Proof/Laws/Blocks.lean ====
section
/-! SUPPORT. What the shared operations of the tuning unit and the engine do. -/

namespace Sys2Proof.Machine

/-- An interpretation on a part that stands as every step leaves it is a reply. -/
theorem Part.interpret_unchanged {p : Part} {item : RxItem} {f : Part → Part × Reply} {r : Reply}
    (h : p.hears = true) (hf : f p = (p, r)) : p.interpret item f = p.replied r := by
  rw [Part.interpret_of_hears h, hf]
  exact Part.placeReply_eq _ (Part.hears_live h) (Part.hears_driven h)

/-- A command that is refused is a reply without data and nothing else (R184). -/
theorem Part.command_refused {p : Part} {kind tag : Byte} {args : List Byte} {f : List Byte → Part → Answer}
    {c : ReplyCode} (h : p.hears = true) (ht : tag ≠ 0) (hf : f args p = p.refuse c) :
    p.command kind (tag :: args) f = p.replied ⟨kind + 0x80, tag, c, []⟩ := by
  rw [Part.command_of_hears h ht, hf]
  exact Part.placeReply_eq _ (Part.hears_live h) (Part.hears_driven h)

/-- A command that is taken gives its part and the reply OK. -/
theorem Part.command_taken {p q : Part} {kind tag : Byte} {args data : List Byte} {f : List Byte → Part → Answer}
    (h : p.hears = true) (ht : tag ≠ 0) (hf : f args p = q.ok data)
    (h1 : q.stepRoundLive = true) (h2 : q.outputsDriven = true) :
    p.command kind (tag :: args) f = q.replied ⟨kind + 0x80, tag, .ok, data⟩ := by
  rw [Part.command_of_hears h ht, hf]
  exact Part.placeReply_eq _ h1 h2

/-- The end of a step on a part with no STEP round to end and its outputs driven is the transmitter's. -/
theorem Part.finish_of_live {p : Part} (h1 : p.stepRoundLive = true) (h2 : p.outputsDriven = true) :
    p.finish = p.startSending := by
  unfold Part.finish
  rw [Part.endStepRound_of_live h1, Part.driveOutputs_of_driven]
  unfold Part.startSending
  (repeat' split) <;> exact h2

/-! ### The tuning link (R26) -/

/-- A synthesizer that saw TCLK and TLE settled takes every bit clocked out to it, and no word comes into effect. -/
theorem Synthesizer.sees_clocked (bits : List Bool) (y : Synthesizer) (h : y.pins.tle = false) :
    ∃ pins : TuningPins, pins.tle = false ∧
      (bits.flatMap clockLevels).foldl Synthesizer.sees y =
        ⟨if bits = [] then y.pins else pins, bits.foldl BitVec.shiftConcat y.taken, y.inEffect⟩ := by
  induction bits generalizing y with
  | nil => exact ⟨y.pins, h, by simp⟩
  | cons b bs ih =>
    obtain ⟨pins, hp, he⟩ := ih ⟨⟨true, b, false⟩, y.taken.shiftConcat b, y.inEffect⟩ rfl
    refine ⟨if bs = [] then ⟨true, b, false⟩ else pins, by split <;> simp [hp], ?_⟩
    simp only [List.flatMap_cons, clockLevels, List.cons_append, List.nil_append, List.foldl_cons] at he ⊢
    simpa [Synthesizer.sees] using he

/-- The bits of a word, concatenated in the order of the shift, are the word. -/
theorem wordBits_concat (w : TuningWord) : (wordBits w).foldl BitVec.shiftConcat (0 : TuningWord) = w := by
  apply BitVec.eq_of_getLsbD_eq
  intro i hi
  simp only [wordBits, List.range, List.range.loop, List.map_cons, List.map_nil, List.foldl_cons, List.foldl_nil]
  interval_cases i <;> simp [BitVec.getMsbD]

/-- The levels of a shift and latch put their word in effect. -/
@[simp] theorem wordTaken_shiftLevels (w : TuningWord) : wordTaken (shiftLevels w) = some w := by
  obtain ⟨pins, hp, he⟩ := Synthesizer.sees_clocked (wordBits w) ⟨.low, 0, none⟩ rfl
  have hb : wordBits w ≠ [] := by simp [wordBits]
  simp only [wordTaken, shiftLevels, List.foldl_append, he, List.foldl_cons, List.foldl_nil, if_neg hb,
    wordBits_concat]
  simp [Synthesizer.sees, TuningPins.low, hp]

/-- What the shift and latch of a word do: the lines rest low, and the word is in effect. -/
theorem Part.shiftOut_eq (w : TuningWord) (p : Part) :
    p.shiftOut w =
      { p with tuning.pins := .low, tuning.driven := shiftLevels w, tuning.latched := some w } := by
  simp only [Part.shiftOut, wordTaken_shiftLevels]

/-- With a serving site and no tuned channel the position is AWAY (R28). -/
theorem Part.positionNow_untuned {p : Part} (hs : p.aff.serving.isSome = true) (ht : p.tuning.tuned = none) :
    p.positionNow = .away := by
  unfold Part.positionNow
  rw [ht]
  cases h : p.aff.serving with
  | none => simp [h] at hs
  | some x => simp

/-- Recomputing the position of a part that was not HOME (R28). -/
theorem Part.recomputePosition_notHome {p : Part} (hp : p.tuning.position ≠ .home) :
    p.recomputePosition =
      ({ p with
        tuning.position := p.positionNow
        tuning.fault := p.tuning.fault && p.positionNow == .away } : Part).driveOutputs := by
  unfold Part.recomputePosition
  simp [hp]

/-- With no burst in flight, discarding it changes nothing (R44). -/
theorem Part.discardBurst_none {p : Part} (h : p.sched.burst = none) : p.discardBurst = p := by
  simp [Part.discardBurst, h]

/-- Recomputing the position with no burst in flight (R28, R44). -/
theorem Part.recomputePosition_noBurst {p : Part} (hb : p.sched.burst = none) :
    p.recomputePosition =
      ({ p with
        tuning.position := p.positionNow
        tuning.fault := p.tuning.fault && p.positionNow == .away } : Part).driveOutputs := by
  unfold Part.recomputePosition
  simp only
  split
  · exact Part.discardBurst_none (by exact hb)
  · rfl

/-- A tune that starts with a serving site and no burst to discard leaves the part AWAY, with the outputs driven (R26,
R28, R29, R39). -/
theorem Part.startOp_away {p : Part} {owner : Owner} {req : TuneReq} (hs : p.aff.serving.isSome = true)
    (hb : p.tuning.position ≠ .home ∨ p.sched.burst = none) :
    p.startOp owner req =
      ({ p with
        tuning.op := some (freshOp p.params req.channel req.kind owner)
        tuning.pins := startPins p.params req.channel
        tuning.tuned := none
        tuning.holder := some owner
        tuning.position := .away } : Part).driveOutputs := by
  have key : ∀ q : Part, q.aff.serving.isSome = true → q.tuning.tuned = none →
      (q.tuning.position ≠ .home ∨ q.sched.burst = none) →
      q.recomputePosition = ({ q with tuning.position := .away } : Part).driveOutputs := by
    intro q h1 h2 h3
    have h4 := Part.positionNow_untuned h1 h2
    rcases h3 with h3 | h3
    · rw [Part.recomputePosition_notHome h3, h4]; simp
    · rw [Part.recomputePosition_noBurst h3, h4]; simp
  exact (key _ (by exact hs) rfl (by exact hb)).trans rfl

/-- A serving channel is of a serving site. -/
theorem Part.serving_of_channel {p : Part} {c : Nat} (h : p.servingChannel = some c) : p.aff.serving.isSome = true := by
  unfold Part.servingChannel at h
  split at h <;> simp_all

/-- The tune home of a client that holds the receiver, away from the serving channel with no tune running, starts at once
(R33, R36). -/
theorem Part.requestReturn_away {p : Part} {home : Nat} {o : Owner} (hs : p.servingChannel = some home)
    (hh : p.tuning.holder = some o) (ho : p.tuning.op = none) (hp : p.tuning.position ≠ .home) :
    p.requestReturn o =
      ({ p with
        tuning.op := some (freshOp p.params home .ret o)
        tuning.pins := startPins p.params home
        tuning.tuned := none
        tuning.position := .away } : Part).driveOutputs := by
  simp only [Part.requestReturn, hs, Part.requestTune, hh, ho, if_true]
  exact (Part.startOp_away (Part.serving_of_channel hs) (Or.inl hp)).trans (by rw [← hh])

/-- Outputs driven away from HOME stay so as the position becomes AWAY. -/
theorem Part.driven_away {p q : Part} (h : p.outputsDriven = true) (hp : p.tuning.position ≠ .home)
    (hq : q.tuning.position ≠ .home) (hl : q.lines = p.lines) (hm : q.aff.machine = p.aff.machine) :
    q.outputsDriven = true := by
  have h1 : (p.tuning.position == .home) = false := by simpa using hp
  have h2 : (q.tuning.position == .home) = false := by simpa using hq
  simp only [Part.outputsDriven, h1, h2, hl, hm] at h ⊢
  exact h

/-- A HOME gap that holds the receiver is sent home (R49, R53). -/
theorem Part.gapTuneHome_of_midGap {p : Part} {g : Gap} {home : Nat} (h : p.MidGap g home)
    (hd : p.outputsDriven = true) : p.gapTuneHome g = p.sentHome g home := by
  have hc : ({ p with sched.gap := some g.goneHome } : Part).servingChannel = some home := h.serving
  refine (Part.requestReturn_away (p := { p with sched.gap := some g.goneHome }) hc h.holds h.quiet h.away).trans ?_
  exact Part.driveOutputs_of_driven (Part.driven_away hd h.away (by simp) rfl rfl)

/-- A notice leaves the STEP round as it is. -/
theorem Part.live_of_queueNotice {p : Part} {n : Notice} (h : p.stepRoundLive = true) :
    (p.queueNotice n).stepRoundLive = true := by
  have := Part.queueNotice_blocks n p
  simp only [Part.stepRoundLive, this] at h ⊢
  exact h

/-- A notice leaves the outputs as they are. -/
theorem Part.driven_of_queueNotice {p : Part} {n : Notice} (h : p.outputsDriven = true) :
    (p.queueNotice n).outputsDriven = true := by
  have := Part.queueNotice_blocks n p
  simp only [Part.outputsDriven, this] at h ⊢
  exact h

/-- What every step leaves, apart. -/
theorem Part.live_of_settled {p : Part} (h : p.settledOutside = true) : p.stepRoundLive = true := by
  simp only [Part.settledOutside, Bool.and_eq_true] at h; exact h.1.1

theorem Part.fed_of_settled {p : Part} (h : p.settledOutside = true) : p.transmitterFed = true := by
  simp only [Part.settledOutside, Bool.and_eq_true] at h; exact h.1.2

theorem Part.driven_of_settled {p : Part} (h : p.settledOutside = true) : p.outputsDriven = true := by
  simp only [Part.settledOutside, Bool.and_eq_true] at h; exact h.2

end Sys2Proof.Machine
end

