-- ==== Sys2Proof/Laws/PerInstr.lean ====
section
/-! SUPPORT. For every row: a row that interprets a record of the link is the row that record is read as (R183), and any
other row can always be sent. -/

namespace Sys2Proof

/-- The record a row interprets, when it is one of those: its kind and its payload (R183, R196). -/
def Instr.record : Instr → Option (Byte × List Byte)
  | .info payload => some (0x01, payload)
  | .paramSet payload => some (0x02, payload)
  | .paramGet payload => some (0x03, payload)
  | .identity payload => some (0x04, payload)
  | .sitePut payload => some (0x05, payload)
  | .siteDrop payload => some (0x06, payload)
  | .siteGet payload => some (0x07, payload)
  | .siteList payload => some (0x08, payload)
  | .run payload => some (0x09, payload)
  | .halt payload => some (0x0A, payload)
  | .step payload => some (0x0B, payload)
  | .cont payload => some (0x0C, payload)
  | .watchSet payload => some (0x0D, payload)
  | .watchClear payload => some (0x0E, payload)
  | .move payload => some (0x0F, payload)
  | .airIn payload => some (0x10, payload)
  | .airSent payload => some (0x11, payload)
  | .linesSet payload => some (0x12, payload)
  | .linesRead payload => some (0x13, payload)
  | .request payload => some (0x14, payload)
  | .signOff payload => some (0x15, payload)
  | .status payload => some (0x16, payload)
  | .notices payload => some (0x17, payload)
  | .reset payload => some (0x18, payload)
  | .unknown kind payload => some (kind, payload)
  | .frameError _ => none
  | .lrxByte _ => none
  | .linkGapExpiry => none
  | .recordSent => none
  | .powerOn => none
  | .resetLine => none
  | .shiftLatchDone => none
  | .lockBlankEnd _ => none
  | .lock => none
  | .lockWaitExpiry => none
  | .settleExpiry => none
  | .roundExpiry => none
  | .sampleTimerExpiry => none
  | .rssiConversionDone _ => none
  | .listenExpiry => none
  | .batteryTimerExpiry => none
  | .batteryConversionDone _ => none
  | .inputEdge _ _ => none
  | .debounceExpiry _ => none
  | .intervalExpiry => none
  | .beaconWaitExpiry => none
  | .grantWaitExpiry => none
  | .txWaitExpiry => none

namespace Laws.RecordRow

/-- A row that interprets a record is read from that record when it is well formed, and the record fits the wire; a row
that interprets none is always well formed. -/
def Statement (i : Instr) : Prop :=
  match i.record with
  | some (kind, payload) => i.wellFormed = true → rowOfRecord kind payload = i ∧ payload.length ≤ 63
  | none => i.wellFormed = true

/-- A payload that fits has at most 63 bytes. -/
theorem of_fits {kind : Byte} {payload : List Byte} {i : Instr} (h : rowOfRecord kind payload = i)
    (hf : payloadFits payload = true) : rowOfRecord kind payload = i ∧ payload.length ≤ 63 :=
  ⟨h, of_decide_eq_true hf⟩

/-- A kind that is no command kind is read as UNKNOWN (R183 step 2). -/
theorem row_unknown {kind : Byte} (payload : List Byte) (h : isCommandKind kind = false) :
    rowOfRecord kind payload = .unknown kind payload := by
  unfold rowOfRecord
  split <;> first | rfl | simp_all [isCommandKind]

theorem info (payload : List Byte) : Statement (.info payload) := of_fits rfl
theorem paramSet (payload : List Byte) : Statement (.paramSet payload) := of_fits rfl
theorem paramGet (payload : List Byte) : Statement (.paramGet payload) := of_fits rfl
theorem identity (payload : List Byte) : Statement (.identity payload) := of_fits rfl
theorem sitePut (payload : List Byte) : Statement (.sitePut payload) := of_fits rfl
theorem siteDrop (payload : List Byte) : Statement (.siteDrop payload) := of_fits rfl
theorem siteGet (payload : List Byte) : Statement (.siteGet payload) := of_fits rfl
theorem siteList (payload : List Byte) : Statement (.siteList payload) := of_fits rfl
theorem run (payload : List Byte) : Statement (.run payload) := of_fits rfl
theorem halt (payload : List Byte) : Statement (.halt payload) := of_fits rfl
theorem step (payload : List Byte) : Statement (.step payload) := of_fits rfl
theorem cont (payload : List Byte) : Statement (.cont payload) := of_fits rfl
theorem watchSet (payload : List Byte) : Statement (.watchSet payload) := of_fits rfl
theorem watchClear (payload : List Byte) : Statement (.watchClear payload) := of_fits rfl
theorem move (payload : List Byte) : Statement (.move payload) := of_fits rfl
theorem airIn (payload : List Byte) : Statement (.airIn payload) := of_fits rfl
theorem airSent (payload : List Byte) : Statement (.airSent payload) := of_fits rfl
theorem linesSet (payload : List Byte) : Statement (.linesSet payload) := of_fits rfl
theorem linesRead (payload : List Byte) : Statement (.linesRead payload) := of_fits rfl
theorem request (payload : List Byte) : Statement (.request payload) := of_fits rfl
theorem signOff (payload : List Byte) : Statement (.signOff payload) := of_fits rfl
theorem status (payload : List Byte) : Statement (.status payload) := of_fits rfl
theorem notices (payload : List Byte) : Statement (.notices payload) := of_fits rfl
theorem reset (payload : List Byte) : Statement (.reset payload) := of_fits rfl
theorem unknown (kind : Byte) (payload : List Byte) : Statement (.unknown kind payload) := by
  intro h
  simp only [Instr.wellFormed, Bool.and_eq_true, Bool.not_eq_true'] at h
  exact of_fits (row_unknown payload h.1) h.2
theorem frameError (cause : FrameCause) : Statement (.frameError cause) := rfl
theorem lrxByte (b : Byte) : Statement (.lrxByte b) := rfl
theorem linkGapExpiry : Statement .linkGapExpiry := rfl
theorem recordSent : Statement .recordSent := rfl
theorem powerOn : Statement .powerOn := rfl
theorem resetLine : Statement .resetLine := rfl
theorem shiftLatchDone : Statement .shiftLatchDone := rfl
theorem lockBlankEnd (lockActive : Bool) : Statement (.lockBlankEnd lockActive) := rfl
theorem lock : Statement .lock := rfl
theorem lockWaitExpiry : Statement .lockWaitExpiry := rfl
theorem settleExpiry : Statement .settleExpiry := rfl
theorem roundExpiry : Statement .roundExpiry := rfl
theorem sampleTimerExpiry : Statement .sampleTimerExpiry := rfl
theorem rssiConversionDone (code : Byte) : Statement (.rssiConversionDone code) := rfl
theorem listenExpiry : Statement .listenExpiry := rfl
theorem batteryTimerExpiry : Statement .batteryTimerExpiry := rfl
theorem batteryConversionDone (code : Byte) : Statement (.batteryConversionDone code) := rfl
theorem inputEdge (input : Input) (level : Bool) : Statement (.inputEdge input level) := rfl
theorem debounceExpiry (input : Input) : Statement (.debounceExpiry input) := rfl
theorem intervalExpiry : Statement .intervalExpiry := rfl
theorem beaconWaitExpiry : Statement .beaconWaitExpiry := rfl
theorem grantWaitExpiry : Statement .grantWaitExpiry := rfl
theorem txWaitExpiry : Statement .txWaitExpiry := rfl

end Laws.RecordRow

end Sys2Proof
end

