-- ==== Sys2Proof/Laws/Table.lean ====
section
/-! SUPPORT. The site table as a list of slots: lookups, updates in place, and the choice of the best entry. -/

namespace Sys2Proof.Machine

/-- The occupied slots counted from `k` are the slots that hold a record. -/
theorem mem_occupiedFrom (l : List (Option SiteRecord)) (k i : Nat) (r : SiteRecord) :
    (i, r) ∈ occupiedFrom k l ↔ k ≤ i ∧ l[i - k]? = some (some r) := by
  induction l generalizing k with
  | nil => simp [occupiedFrom]
  | cons o l ih =>
    have step : k + 1 ≤ i → i - k = (i - (k + 1)) + 1 := by omega
    cases o with
    | none =>
      simp only [occupiedFrom, ih]
      constructor
      · rintro ⟨h1, h2⟩
        exact ⟨by omega, by rw [step h1]; simpa using h2⟩
      · rintro ⟨h1, h2⟩
        by_cases h : i = k
        · subst h; simp at h2
        · have h3 : k + 1 ≤ i := by omega
          exact ⟨h3, by rw [step h3] at h2; simpa using h2⟩
    | some q =>
      simp only [occupiedFrom, List.mem_cons, ih, Prod.mk.injEq]
      constructor
      · rintro (⟨h1, h2⟩ | ⟨h1, h2⟩)
        · subst h1; subst h2; simp
        · exact ⟨by omega, by rw [step h1]; simpa using h2⟩
      · rintro ⟨h1, h2⟩
        by_cases h : i = k
        · subst h; left; simp at h2; exact ⟨rfl, h2.symm⟩
        · have h3 : k + 1 ≤ i := by omega
          right; exact ⟨h3, by rw [step h3] at h2; simpa using h2⟩

/-- A slot holds a record exactly when the list of occupied slots has it. -/
theorem Part.mem_occupied (p : Part) (i : Nat) (r : SiteRecord) : (i, r) ∈ p.occupied ↔ p.slotAt i = some r := by
  simp only [Part.occupied, mem_occupiedFrom, Part.slotAt, Nat.zero_le, true_and, Nat.sub_zero]
  cases p.table[i]? <;> simp

/-- The positions of the occupied slots rise. -/
theorem occupiedFrom_pairwise (l : List (Option SiteRecord)) (k : Nat) :
    (occupiedFrom k l).Pairwise (fun x y => x.1 < y.1) := by
  induction l generalizing k with
  | nil => simp [occupiedFrom]
  | cons o l ih =>
    cases o with
    | none => exact ih (k + 1)
    | some q =>
      refine List.pairwise_cons.2 ⟨?_, ih (k + 1)⟩
      rintro ⟨i, r⟩ h
      have := (mem_occupiedFrom l (k + 1) i r).1 h
      show k < i
      omega

/-- What a lookup of a site ID finds. -/
theorem Part.find_some {p : Part} {site i : Nat} {r : SiteRecord} (h : p.find site = some (i, r)) :
    p.slotAt i = some r ∧ r.site = site := by
  have h1 := List.mem_of_find?_eq_some h
  have h2 := List.find?_some h
  exact ⟨(p.mem_occupied i r).1 h1, by simpa using h2⟩

/-- A lookup finds nothing exactly when no slot holds the site ID. -/
theorem Part.find_none {p : Part} {site : Nat} :
    p.find site = none ↔ ∀ i r, p.slotAt i = some r → r.site ≠ site := by
  simp only [Part.find, List.find?_eq_none]
  constructor
  · intro h i r hr
    have := h (i, r) ((p.mem_occupied i r).2 hr)
    simpa using this
  · rintro h ⟨i, r⟩ hr
    have := h i r ((p.mem_occupied i r).1 hr)
    simpa using this

theorem Part.record_some {p : Part} {site : Nat} {r : SiteRecord} (h : p.record site = some r) :
    (∃ i, p.find site = some (i, r)) ∧ r.site = site := by
  simp only [Part.record, Option.map_eq_some_iff] at h
  obtain ⟨⟨i, q⟩, h1, h2⟩ := h
  simp only at h2
  subst h2
  exact ⟨⟨i, h1⟩, (Part.find_some h1).2⟩

theorem Part.record_none {p : Part} {site : Nat} : p.record site = none ↔ p.find site = none := by
  simp [Part.record]

/-- In a sound table a site ID stands in one slot only (R1). -/
theorem Part.slot_unique {p : Part} (hs : p.tableSound = true) {i j : Nat} {r q : SiteRecord}
    (hi : p.slotAt i = some r) (hj : p.slotAt j = some q) (h : r.site = q.site) : i = j ∧ r = q := by
  simp only [Part.tableSound, Bool.and_eq_true, Part.siteIds] at hs
  have h1 := (p.mem_occupied i r).2 hi
  have h2 := (p.mem_occupied j q).2 hj
  simpa using List.inj_on_of_nodup_map (of_decide_eq_true hs.2) h1 h2 h

/-- In a sound table a lookup finds the slot that holds the site ID. -/
theorem Part.find_of_slot {p : Part} (hs : p.tableSound = true) {i : Nat} {r : SiteRecord}
    (h : p.slotAt i = some r) : p.find r.site = some (i, r) := by
  cases hf : p.find r.site with
  | none => exact absurd rfl ((Part.find_none.1 hf) i r h)
  | some x =>
    obtain ⟨j, q⟩ := x
    obtain ⟨h1, h2⟩ := Part.find_some hf
    obtain ⟨rfl, rfl⟩ := Part.slot_unique hs h1 h h2
    rfl

theorem Part.record_of_slot {p : Part} (hs : p.tableSound = true) {i : Nat} {r : SiteRecord}
    (h : p.slotAt i = some r) : p.record r.site = some r := by
  simp [Part.record, Part.find_of_slot hs h]

/-! ### Changes in place -/

/-- A change of every record changes each slot. -/
@[simp] theorem Part.slotAt_mapRecords (f : SiteRecord → SiteRecord) (p : Part) (i : Nat) :
    (p.mapRecords f).slotAt i = (p.slotAt i).map f := by
  simp only [Part.mapRecords, Part.slotAt, List.getElem?_map]
  cases p.table[i]? <;> simp

/-- A change of one site's record changes the slots that hold it. -/
theorem Part.slotAt_updateRec (site : Nat) (f : SiteRecord → SiteRecord) (p : Part) (i : Nat) :
    (p.updateRec site f).slotAt i = (p.slotAt i).map (fun r => if r.site = site then f r else r) := by
  simp only [Part.updateRec, Part.slotAt_mapRecords, beq_iff_eq]

/-- In a sound table, a change of one site's record is a change of its slot. -/
theorem Part.updateRec_table {p : Part} (hs : p.tableSound = true) {i : Nat} {r : SiteRecord}
    (h : p.slotAt i = some r) (f : SiteRecord → SiteRecord) :
    (p.updateRec r.site f).table = p.table.set i (some (f r)) := by
  have hi : p.table[i]? = some (some r) := by
    unfold Part.slotAt at h
    cases hh : p.table[i]? with
    | none => simp [hh] at h
    | some o => simp [hh] at h; rw [h]
  simp only [Part.updateRec, Part.mapRecords]
  apply List.ext_getElem?
  intro j
  rw [List.getElem?_map, List.getElem?_set]
  by_cases hj : i = j
  · subst hj
    have hl : i < p.table.length := (List.getElem?_eq_some_iff.1 hi).1
    rw [hi]; simp [hl]
  · simp only [hj, if_false]
    cases hh : p.table[j]? with
    | none => simp
    | some o =>
      cases o with
      | none => simp
      | some q =>
        have hq : p.slotAt j = some q := by simp [Part.slotAt, hh]
        have : q.site ≠ r.site := by
          intro e
          exact hj (Part.slot_unique hs h hq e.symm).1
        simp [this]

/-- A change of a record that keeps its site ID and its channel keeps the serving channel (R11). -/
theorem Part.servingChannel_updateRec (p : Part) (site : Nat) (f : SiteRecord → SiteRecord)
    (hf : ∀ r, (f r).channel = r.channel ∧ (f r).site = r.site) :
    (p.updateRec site f).servingChannel = p.servingChannel := by
  have key : ∀ (l : List (Option SiteRecord)) (k x : Nat),
      ((occupiedFrom k (l.map (Option.map (fun r => if r.site == site then f r else r)))).find?
        (fun y => y.2.site == x)).map (fun y => y.2.channel) =
      ((occupiedFrom k l).find? (fun y => y.2.site == x)).map (fun y => y.2.channel) := by
    intro l k x
    induction l generalizing k with
    | nil => rfl
    | cons o l ih =>
      cases o with
      | none => simpa [occupiedFrom] using ih (k + 1)
      | some r =>
        simp only [List.map_cons, Option.map_some, occupiedFrom, List.find?_cons]
        have h1 : (if (r.site == site) = true then f r else r).site = r.site := by split <;> simp [hf]
        have h2 : (if (r.site == site) = true then f r else r).channel = r.channel := by split <;> simp [hf]
        simp only [h1]
        cases r.site == x
        · exact ih (k + 1)
        · simpa using h2
  unfold Part.servingChannel
  show (match p.aff.serving with | some s => ((p.updateRec site f).record s).map SiteRecord.channel | none => none) = _
  cases p.aff.serving with
  | none => rfl
  | some x =>
    have := key p.table 0 x
    simpa [Part.record, Part.find, Part.occupied, Part.updateRec, Part.mapRecords, Option.map_map,
      Function.comp_def] using this

/-! ### The best entry -/

/-- The choice is an entry with the greatest key, and the first among the entries that have it. -/
theorem pickMax_spec (key : SiteRecord → Nat) (l : List (Nat × SiteRecord)) :
    (pickMax key l = none ↔ l = []) ∧
    ∀ x, pickMax key l = some x →
      ∃ before after, l = before ++ x :: after ∧ (∀ y ∈ before, key y.2 < key x.2) ∧ ∀ y ∈ after, key y.2 ≤ key x.2 := by
  induction l with
  | nil => simp [pickMax]
  | cons a l ih =>
    constructor
    · simp only [pickMax, reduceCtorEq, iff_false]
      split
      · simp
      · split <;> simp
    · intro x hx
      simp only [pickMax] at hx
      split at hx
      · rename_i hn
        have := ih.1.1 hn
        subst this
        simp only [Option.some.injEq] at hx
        exact ⟨[], [], by simp [hx], by simp, by simp⟩
      · rename_i y hy
        obtain ⟨b, c, h1, h2, h3⟩ := ih.2 y hy
        split at hx
        · rename_i hk
          simp only [Option.some.injEq] at hx
          subst hx
          refine ⟨[], l, rfl, by simp, ?_⟩
          intro z hz
          rw [h1] at hz
          rcases List.mem_append.1 hz with hz | hz
          · exact le_of_lt (lt_of_lt_of_le (h2 z hz) hk)
          · rcases List.mem_cons.1 hz with rfl | hz
            · exact hk
            · exact le_trans (h3 z hz) hk
        · rename_i hk
          simp only [Option.some.injEq] at hx
          subst hx
          refine ⟨a :: b, c, by simp [h1], ?_, h3⟩
          intro z hz
          rcases List.mem_cons.1 hz with rfl | hz
          · omega
          · exact h2 z hz

/-- Among the occupied slots that qualify, the choice is the best, at the lowest position (00_scope.md, Ties). -/
theorem Part.pickMax_occupied (p : Part) (key : SiteRecord → Nat) (fit : SiteRecord → Bool) :
    (pickMax key (p.occupied.filter (fun x => fit x.2)) = none →
      ∀ j w, p.slotAt j = some w → fit w = false) ∧
    (∀ i v, pickMax key (p.occupied.filter (fun x => fit x.2)) = some (i, v) →
      p.slotAt i = some v ∧ fit v = true ∧
      ∀ j w, p.slotAt j = some w → fit w = true → key w ≤ key v ∧ (key w = key v → i ≤ j)) := by
  obtain ⟨h1, h2⟩ := pickMax_spec key (p.occupied.filter (fun x => fit x.2))
  constructor
  · intro h j w hw
    have he := h1.1 h
    have := (List.filter_eq_nil_iff.1 he) (j, w) ((p.mem_occupied j w).2 hw)
    simpa using this
  · intro i v h
    obtain ⟨b, c, e, hb, hc⟩ := h2 _ h
    have hm : (i, v) ∈ p.occupied.filter (fun x => fit x.2) := by rw [e]; simp
    obtain ⟨hm1, hm2⟩ := List.mem_filter.1 hm
    refine ⟨(p.mem_occupied i v).1 hm1, hm2, ?_⟩
    intro j w hw hf
    have hj : (j, w) ∈ p.occupied.filter (fun x => fit x.2) := List.mem_filter.2 ⟨(p.mem_occupied j w).2 hw, hf⟩
    have hp : (p.occupied.filter (fun x => fit x.2)).Pairwise (fun x y => x.1 < y.1) :=
      (occupiedFrom_pairwise p.table 0).filter _
    rw [e] at hj hp
    rcases List.mem_append.1 hj with hj | hj
    · have := hb _ hj
      exact ⟨by simp at this; omega, by simp at this; omega⟩
    · rcases List.mem_cons.1 hj with hj | hj
      · simp only [Prod.mk.injEq] at hj
        obtain ⟨rfl, rfl⟩ := hj
        exact ⟨le_refl _, fun _ => le_refl _⟩
      · refine ⟨hc _ hj, fun _ => ?_⟩
        have := (List.pairwise_cons.1 (List.pairwise_append.1 hp).2.1).1 _ hj
        exact le_of_lt this

end Sys2Proof.Machine
end

