-- ==== Sys2Proof/Tests/Slice0.lean ====
section
/-! SUPPORT. Small tests: the spec's own worked numbers, ill-formed commands, and for every statement with hypotheses a
part that meets them. Each test is one step on a small part. -/

namespace Sys2Proof.Tests

open Sys2Proof Sys2Proof.Machine

set_option Elab.async false

/-! ### Small parts -/

def at0 (p : Part) : State := ⟨p, []⟩

/-- The part after one command; a part that no command makes, when it does not complete. -/
def after (c : Instr) (p : Part) : Part :=
  match exec c (at0 p) with
  | .next t => t.part
  | _ => { p with freeCount := 999 }

/-- The code and data of the reply after one command. -/
def answer (c : Instr) (p : Part) : Option (ReplyCode × List Byte) :=
  (after c p).link.reply.map (fun r => (r.code, r.data))

/-- After power-on. -/
def idle : Part := Part.atPowerOn false false false false 0

/-- A reply in the slot and on LTX, from an INFO of tag 9. -/
def replying : Part := after (.info [9]) idle

def holding (item : RxItem) (p : Part) : Part := { p with link.buffer := some item }

def record5 : SiteRecord :=
  { SiteRecord.fresh 5 340 .pinned 0 with level := some ⟨130, 2080⟩, confirm := some 4, load := some 1 }
def record9 : SiteRecord :=
  { SiteRecord.fresh 9 341 .learned (-6) with level := some ⟨155, 2400⟩, age := 1, confirm := some 3, load := some 1 }
def record12 : SiteRecord := SiteRecord.fresh 12 340 .pinned 0

/-- Registered and HOME on site 5; site 9 is confirmed, site 12 is co-channel. RUNNING, with the transmitter busy. -/
def home : Part :=
  { idle with
    table := ((Part.emptyTable.set 0 (some record5)).set 1 (some record9)).set 2 (some record12)
    tuning := { Tuning.atReset with tuned := some 340, position := .home }
    engine := { Engine.atReset none none with state := .running, roundTimer := some 400 }
    sup := { Sup.atReset Params.defaults with active := true, cls := some 1, timer := some 500 }
    aff := { Aff.atReset (some ⟨100, 7⟩) 0 with
      serving := some 5, slot := some 3, sense := some .present, machine := .registered }
    lines.mute := false
    link.tx := .notice [0x7E] }

/-- A handover from site 5 to site 9. -/
def context : Context where
  target := 9
  cause := .host
  oldServing := some 5
  canReturn := true
  attempts := 1
  cls := some 2
  tried := []
  waiting := false
  inStep := false

/-- The handover in flight, its controller holding the receiver on the target's channel. -/
def moving (machine : HoState) (timer : Option HoTimer) : Part :=
  { home with
    tuning.tuned := some 341, tuning.position := .away, tuning.holder := some .affiliation
    sup.active := false, sup.timer := none
    aff.machine := machine, aff.ctx := some context, aff.hoTimer := timer
    lines.mute := true, lines.txinh := true }

def listening : Part := moving .hoListen (some ⟨.beaconWait, 1500⟩)
def granting : Part := moving .hoGrant (some ⟨.grantWait, 500⟩)
def registerFrame : AirFrame := .register 9 100 7 5 false
def sending : Part :=
  { moving .hoSend none with aff.tx := some ⟨.register, registerFrame, 0, 1⟩, aff.txTimer := some 1000, aff.lastNumber := 1 }

def opOn (channel : Nat) (kind : TuneKind) (owner : Owner) (phase : TunePhase) (attempt : Nat) : TuneOp :=
  { freshOp Params.defaults channel kind owner with phase := phase, attempt := attempt, lockWait := some 5 }

/-- The handover with its tune running. -/
def hopping (phase : TunePhase) : Part :=
  { moving .hoTune none with tuning.op := some (opOn 341 .away .affiliation phase 1), tuning.tuned := none }

/-- A HOME gap to site 9 with one sample of four taken. -/
def gapAt (phase : GapPhase) (run : SamplePhase) : Gap where
  position := 1
  site := 9
  channel := 341
  kind := .long
  fromPending := false
  phase := phase
  run := ⟨4, 1, 1, 150, run⟩
  noted := none
  standing := true
  listenTimer := some 600
  inStep := false

def gapping (g : Gap) : Part :=
  { home with
    tuning.tuned := some 341, tuning.position := .away, tuning.holder := some .scheduler
    sched.gap := some g
    lines.mute := true }

def gapTuning (channel : Nat) (kind : TuneKind) (g : Gap) : Part :=
  { gapping g with tuning.op := some (opOn channel kind .scheduler .settling 1), tuning.tuned := none }

/-- No site serves; a HUNT gap on channel 341, the engine RUNNING with no work of the round left. -/
def hunting (g : Gap) : Part :=
  { home with
    tuning := { Tuning.atReset with tuned := some 341, position := .parked, holder := some .scheduler }
    sched.gap := some { g with kind := .hunt }
    sup := Sup.atReset Params.defaults
    aff := Aff.atReset (some ⟨100, 7⟩) 0
    lines.mute := true }

/-- The HUNT gap with the tune that has just found its lock, or still waits for it. -/
def huntTuning (phase : TunePhase) : Part :=
  { hunting (gapAt .tuneAway .waiting) with
    tuning.op := some (opOn 341 .away .scheduler phase 1), tuning.tuned := none }

/-- A burst on the serving record with `taken` of four samples taken. -/
def bursting (taken : Nat) (phase : SamplePhase) : Part :=
  { home with
    sched.burst := some ⟨5, ⟨4, 1, taken, 400, phase⟩, true⟩
    conv.state := if phase = .converting then .rssi else .idle }

/-- A frame as an AIR IN carries it, taken by a part that can interpret it now. -/
theorem takes (p : Part) (tag : Byte) (f : AirFrame)
    (h : (decide (tag ≠ 0) && decide (3 ≤ f.bytes.length) && decide (f.bytes.length ≤ 33) &&
      decide (parseAir f.bytes = some f) && p.hears) = true) :
    TakesFrame (at0 p) tag f.bytes f := by
  simp only [Bool.and_eq_true, decide_eq_true_eq] at h
  exact ⟨h.1.1.1.1, h.1.1.1.2, h.1.1.2, h.1.2, h.2⟩

/-! ### Ill-formed commands -/

def tooLong : List Byte := List.replicate 64 1

theorem test_long_payload_is_ill_formed :
    ([Instr.info, .paramSet, .paramGet, .identity, .sitePut, .siteDrop, .siteGet, .siteList, .run, .halt, .step, .cont,
      .watchSet, .watchClear, .move, .airIn, .airSent, .linesSet, .linesRead, .request, .signOff, .status, .notices,
      .reset, .unknown 0].map (fun f => ((f tooLong).wellFormed, (f (tooLong.drop 1)).wellFormed))) =
      List.replicate 25 (false, true) := by decide +kernel

theorem test_unknown_with_a_command_kind_is_ill_formed :
    (Instr.unknown 0x01 [1]).wellFormed = false ∧ (Instr.unknown 0x18 [1]).wellFormed = false ∧
      (Instr.unknown 0x00 [1]).wellFormed = true ∧ (Instr.unknown 0x19 [1]).wellFormed = true := by decide +kernel

/-- The table gives no row any bits. -/
theorem test_no_word_spells_a_command :
    decodeTableWord 8 0x16 = none ∧ State.reset.withFetchWord 8 0x16 = State.reset := by decide +kernel

/-! ### The spec's worked numbers -/

/-- Chapter 2: SYN_PREFIX 5000, channel 340. -/
theorem test_tuning_word : tuningWord 5000 340 = 0x4E2154 := by decide +kernel

/-- Chapter 2's word 0x4E2154 on the lines (R26): TDAT at the rising edges of TCLK, TLE high once, all low at the end. -/
theorem test_tuning_word_on_the_wire :
    let levels := shiftLevels (tuningWord 5000 340)
    risingBits (.low :: levels) =
      [0, 1, 0, 0, 1, 1, 1, 0, 0, 0, 1, 0, 0, 0, 0, 1, 0, 1, 0, 1, 0, 1, 0, 0].map (fun n : Nat => n == 1) ∧
    levels.map TuningPins.tle = List.replicate 49 false ++ [true, false] ∧ levels.getLast? = some .low ∧
    wordTaken levels = some 0x4E2154 := by decide +kernel

/-- Section 4.2's table: CAL_OFFSET, CAL_SLOPE, code and level. -/
theorem test_conversion_table :
    ([(0, 16, 200, 200), (0, 16, 250, 240), (-20, 12, 10, 0), (-20, 12, 255, 171), (127, 64, 30, 240)].map
      (fun (x : Int × Nat × Nat × Nat) =>
        levelOfCode { Params.defaults with calOffset := x.1, calSlope := x.2.1 } (byte x.2.2.1) == x.2.2.2)) =
      List.replicate 5 true := by decide +kernel

/-- R65's cases: the stored F16, the mean and the new F16 with the default gains, then with K_UP 16; the resting
level of the example after R67. -/
theorem test_filter_cases :
    (filterLevel Params.defaults (some ⟨0, 2400⟩) 159).f16 = 2436 ∧
    (filterLevel Params.defaults (some ⟨0, 2080⟩) 120).f16 = 2000 ∧
    (filterLevel Params.defaults (some ⟨0, 2037⟩) 125).f16 = 2019 ∧
    (filterLevel { Params.defaults with kUp := 16 } (some ⟨0, 1000⟩) 70).f16 = 1120 ∧
    (filterLevel Params.defaults (some ⟨0, 2541⟩) 159).f16 = 2541 := by decide +kernel

/-- Section 4.8: codes 100, 96, 104, 98 with offset 10 and slope 24 make mean 159, and site 27's score 142 stands
against 130. -/
theorem test_section_4_8 :
    let ps := { Params.defaults with calOffset := 10, calSlope := 24 }
    [100, 96, 104, 98].map (fun n => levelOfCode ps (byte n)) = [160, 154, 166, 157] ∧
    (SampleRun.mean ⟨4, 1, 4, 160 + 154 + 166 + 157, .complete⟩) = 159 ∧
    scoreKey ps { record9 with level := some ⟨159, 2436⟩ } = 142 ∧
    scoreKey ps { record5 with load := some 0 } = 130 := by decide +kernel

/-- Chapter 11: HYST 50 as the host sends it, and the reply CLAMPED with 40. -/
theorem test_param_set_on_the_wire :
    recordBytes 0x02 [0x21, 0x25, 0x00, 0x32] = [0x7E, 0x05, 0x02, 0x21, 0x25, 0x00, 0x32, 0x81] ∧
    (after (.paramSet [0x21, 0x25, 0x00, 0x32]) idle).link.tx =
      .reply [0x7E, 0x06, 0x82, 0x21, 0x01, 0x25, 0x00, 0x28, 0x09] := by decide +kernel

/-- R180: the start byte 0x7E and a byte 0x81 on LTX, ten bit times each, the least significant data bit first. -/
theorem test_levels_on_ltx :
    byteLevels 0x7E = [0, 0, 1, 1, 1, 1, 1, 1, 0, 1].map (fun n : Nat => n == 1) ∧
    byteLevels 0x81 = [0, 1, 0, 0, 0, 0, 0, 0, 1, 1].map (fun n : Nat => n == 1) ∧
    (after (.info [9]) idle).link.ltx.length = 110 ∧ idle.link.ltx = [true] ∧
    (after .recordSent replying).link.ltx = [true] ∧ (after .resetLine replying).link.ltx = [true] := by decide +kernel

/-! ### One step of each family -/

theorem test_waiting_record_is_interpreted_as_the_reply_ends :
    exec .recordSent (at0 (holding (.frame 0x01 [7]) replying)) =
        exec (.info [7]) (at0 { replying with link.reply := none, link.tx := .idle }) ∧
      answer .recordSent (holding (.frame 0x01 [7]) replying) = some (.ok, [0x3A, 0x17, 0x02, 0x6C, 0x01]) :=
  ⟨rfl, by decide +kernel⟩

/-- Chapter 11: the bytes of PARAM SET HYST 50, the last of which has the record interpreted. -/
theorem test_last_byte_has_the_record_interpreted :
    answer (.lrxByte 0x81)
      { idle with link.rx := .body 5 [0x02, 0x21, 0x25, 0x00, 0x32], link.gapTimer := some 5 } =
      some (.clamped, [0x25, 0x00, 0x28]) := by decide +kernel

theorem test_site_put_takes_lowest_slot :
    ((after (.sitePut [1, 0, 33, 2, 98, 0xD0]) home).slotAt 3).map (fun r => (r.site, r.channel, r.bias)) =
      some (33, 610, -40) ∧
    answer (.sitePut [1, 0, 33, 2, 98, 0xD0]) home = some (.clamped, [0xD8]) ∧
    answer (.sitePut [1, 0, 5, 2, 98, 0]) home = some (.state, []) := by decide +kernel

theorem test_round_without_candidate_opens_a_burst :
    (after .roundExpiry home).sched.burst.isSome = true ∧ (after .roundExpiry home).engine.roundTimer = some 400 := by
  decide +kernel

theorem test_run_needs_identity : answer (.run [1]) idle = some (.noIdentity, []) := by decide +kernel

theorem test_halt_stops_the_round_timer :
    (after (.halt [1]) home).engine.state = .halted ∧ (after (.halt [1]) home).engine.roundTimer = none := by
  decide +kernel

theorem test_failed_lock_of_a_handover_goes_back :
    (after .lockWaitExpiry (hopping .waiting)).aff.machine = .hoReturn ∧
      (after .lockWaitExpiry (hopping .waiting)).tuning.op.map TuneOp.channel = some 340 := by decide +kernel

/-- R26, R41: a word from 0x800000 on begins with TDAT high; its latch, and a reset in the shift, leave the lines low. -/
theorem test_lines_of_the_tuning_link :
    let shifting := after (.move [1, 0, 9]) { home with params.synPrefix := 8192 }
    shifting.tuning.pins = ⟨false, true, false⟩ ∧ (after .resetLine shifting).tuning.pins = .low ∧
    (after .resetLine shifting).tuning.latched = none ∧ (after .shiftLatchDone shifting).tuning.pins = .low ∧
    (after .shiftLatchDone shifting).tuning.latched = some (tuningWord 8192 341) := by decide +kernel

theorem test_grant_ends_home_on_the_target :
    (after (.airIn (1 :: (AirFrame.grant 9 100 (some 4) .need).bytes)) granting).tuning.position = .home ∧
      (after (.airIn (1 :: (AirFrame.grant 9 100 (some 4) .need).bytes)) granting).lines.mute = false := by
  decide +kernel

/-- R37, R159: the failed tune home of the STEP round's gap ends the round with STEP_DONE, then the engine freezes. -/
theorem test_step_done_before_the_freeze :
    let p : Part :=
      { gapping (gapAt .tuneHome .complete) with
        tuning.op := some (opOn 340 .ret .scheduler .waiting 2), tuning.tuned := none
        engine := { Engine.atReset none none with stepFlag := true }
        sched.work := some ⟨.home, 0, [1], none⟩ }
    (after .lockWaitExpiry p).link.notices.map Queued.notice =
      [.engineState .halted .stepDone none, .engineState (.frozen .tune) .tune none] := by decide +kernel

/-- R93, R132: a round whose own evaluation takes the radio to NONE opens no hunt; the next round does. -/
theorem test_hunt_starts_at_the_next_round :
    let p : Part := { home with table := home.table.set 1 none, engine.releaseOwed := true }
    (after .roundExpiry p).aff.machine = .none ∧ (after .roundExpiry p).sched.gap = none ∧
      ((after .roundExpiry (after .roundExpiry p)).sched.gap.map Gap.kind) = some .hunt := by decide +kernel

theorem test_battery_low_below_the_threshold :
    (after (.batteryConversionDone 119) { home with conv.state := .battery true }).lines.battery = .low ∧
      (after (.batteryConversionDone 120) { home with conv.state := .battery true }).lines.battery = .normal := by
  decide +kernel

theorem test_reset_line_forgets_the_table : (after .resetLine home).table = Part.emptyTable := by decide +kernel

/-! ### Parts that meet the hypotheses of the statements, clause by clause -/

theorem witness_StepTakesFrontCommandOrIdles :
    step ⟨idle, [.info [1]]⟩ = exec (.info [1]) (at0 idle) ∧ step (at0 home) = .next (at0 home) := ⟨rfl, rfl⟩

theorem witness_InfoRepliesAndChangesNothing :
    (1 : Byte) ≠ 0 ∧ idle.hears = true ∧
    (255 : Byte) ≠ 0 ∧ home.hears = true := by decide +kernel

theorem witness_RecordsJudgedInOrder :
    idle.hears = true ∧
    isCommandKind 0x00 = false ∧ idle.hears = true ∧
    isCommandKind 0x19 = false ∧ idle.hears = true ∧
    isCommandKind 0x01 = true ∧ ([] : List Byte).headD 0 = 0 ∧ idle.hears = true ∧
    isCommandKind 0x18 = true ∧ ([0, 1] : List Byte).headD 0 = 0 ∧ idle.hears = true ∧
    (1 : Byte) ≠ 0 ∧ argumentsFit 0x18 [] = false ∧ idle.hears = true ∧
    argumentsFit 0x10 (List.replicate 34 1) = false ∧ idle.hears = true := by
  decide +kernel

theorem witness_RecordsWaitForTheReplySlot :
    replying.link.buffer = none ∧ replying.link.reply.isSome = true ∧
    (holding (.frame 0x16 [2]) replying).link.buffer.isSome = true ∧
    (holding (.frame 0x16 [2]) replying).link.buffer = some (.frame 0x16 [2]) ∧
    (holding (.frame 0x16 [2]) replying).link.tx = .reply (Reply.bytes ⟨0x81, 9, .ok, [0x3A, 0x17, 0x02, 0x6C, 0x01]⟩) ∧
    (holding (.frame 0x16 [2]) replying).link.resetDue = none ∧
    (holding (.error .gap) replying).link.buffer = some (.error .gap) := by decide +kernel

theorem witness_ReceiverFollowsItsTable :
    (holding (.error .check) replying).link.buffer.isSome = true ∧
    (holding (.error .check) replying).receiverSound = true ∧
    idle.link.buffer = none ∧ idle.link.rx = .hunt ∧
    ({ idle with link.rx := .length } : Part).link.rx = .length ∧
    ({ idle with link.rx := .body 2 [1] } : Part).link.rx = .body 2 [1] ∧ [1].length < 2 ∧
    ({ idle with link.rx := .body 2 (1 :: [7]) } : Part).link.rx = .body 2 (1 :: [7]) ∧ (1 :: [7]).length = 2 ∧
    ({ idle with link.gapTimer := some 5 } : Part).link.gapTimer.isSome = true ∧ idle.link.gapTimer = none ∧
    ({ idle with link.gapTimer := some 5 } : Part).hears = true ∧
    ({ idle with link.gapTimer := some 5 } : Part).link.buffer = none ∧
    ({ replying with link.gapTimer := some 5 } : Part).link.gapTimer.isSome = true ∧
    ({ replying with link.gapTimer := some 5 } : Part).link.buffer = none ∧
    ({ replying with link.gapTimer := some 5 } : Part).link.reply.isSome = true ∧
    answer .linkGapExpiry { idle with link.gapTimer := some 5 } = some (.frameError, [0]) := by
  decide +kernel

theorem witness_RecordOnTheWireIsReceived :
    ([] : List Byte).length ≤ 63 ∧ (List.replicate 63 (0 : Byte)).length ≤ 63 ∧ idle.link.rx = .hunt ∧
      idle.link.gapTimer = none ∧ idle.link.buffer = none := by decide +kernel

theorem witness_AirFramesReadBack :
    (AirFrame.beacon ⟨4095, 1023, 3, 3, true, List.replicate 6 (1, 0)⟩).inRange = true ∧
    (AirFrame.grant 1 65535 (some 31) .need).inRange = true ∧ (AirFrame.refuse 1 0 .wrongGroup 255).inRange = true ∧
    (AirFrame.release 1 0 0).inRange = true ∧ (AirFrame.rollCall 4095).inRange = true ∧
    (AirFrame.statusQuery 1 65535).inRange = true ∧ (AirFrame.direct 1 .group 65535 4095 1023).inRange = true ∧
    (AirFrame.register 1 0 65535 65535 true).inRange = true ∧ (AirFrame.rollAnswer 1 0 none).inRange = true ∧
    (AirFrame.statusReport 1 0 ⟨true, false, true, false⟩ (some 254) 255).inRange = true ∧
    (AirFrame.deregister 1 0).inRange = true ∧
    parseAir [0x15, 0x0F, 0xFF] = some (.rollCall 4095) ∧ ([0x15, 0x0F, 0xFF] : List Byte).headD 0 ≠ 0x23 ∧
    parseAir [0x23, 0, 5, 0, 100, 0xFF, 255, 0] = some (.statusReport 5 100 ⟨true, true, true, true⟩ none 0) := by
  decide +kernel

theorem witness_TransmitterTakesNextRecord :
    let noticing : Part := { idle with link.tx := .notice [0x7E] }
    let q : Queued := ⟨.released 5 1, false⟩
    noticing.stepRoundLive = true ∧ noticing.outputsDriven = true ∧ noticing.link.resetDue = none ∧
    noticing.link.tx = .notice [0x7E] ∧ noticing.link.reply = none ∧ noticing.link.notices = [] ∧
    ({ noticing with link.notices := [q] } : Part).link.notices = q :: [] ∧
    (after (.info [1]) noticing).link.reply = some ⟨0x81, 1, .ok, [0x3A, 0x17, 0x02, 0x6C, 0x01]⟩ ∧
    (after (.info [1]) noticing).link.tx = .notice [0x7E] ∧
    (after (.info [1]) noticing).stepRoundLive = true ∧ (after (.info [1]) noticing).outputsDriven = true ∧
    replying.link.tx = .reply (Reply.bytes ⟨0x81, 9, .ok, [0x3A, 0x17, 0x02, 0x6C, 0x01]⟩) ∧
    idle.link.tx = .idle ∧ idle.stepRoundLive = true ∧ idle.outputsDriven = true ∧ idle.link.resetDue = none ∧
    replying.link.buffer = none ∧ replying.link.notices = [] ∧ replying.stepRoundLive = true ∧ replying.outputsDriven = true ∧
    replying.link.resetDue = none := by decide +kernel

/-- A queue of `n` notices RELEASED, then `m` TRANSMIT. -/
def queueOf (n m : Nat) : List Queued :=
  List.replicate n ⟨.released 5 1, false⟩ ++ List.replicate m ⟨.transmit 1 0 (.rollAnswer 5 100 none), false⟩

theorem witness_NoticeQueueRules :
    let lineOff : Part := { idle with link.enabled := 0x0010 }
    let full : Part := { idle with link.notices := queueOf 14 2 }
    noticeEnabled lineOff.link.enabled (.released 5 1) = false ∧
    noticeEnabled idle.link.enabled (.released 5 1) = true ∧ (queueOf 15 0).length < 16 ∧
    16 ≤ full.link.notices.length ∧ (Notice.released 5 1).isTransmit = false ∧
    (Notice.transmit 2 0 (.rollAnswer 5 100 none)).isTransmit = true ∧
    full.link.notices = queueOf 13 0 ++ ⟨.released 5 1, false⟩ :: queueOf 0 2 ∧
    (∀ x ∈ queueOf 0 2, x.notice.isTransmit = true) := by decide +kernel

theorem witness_ParametersSetAndReported :
    (∀ q : Param, idle.hears = true ∧
      idle.hears = true ∧ q.lo ≤ q.lo ∧ q.lo ≤ q.hi ∧
      byte q.code ≠ 0x00 ∧ byte q.code ≠ 0x04 ∧ byte q.code ≠ 0xFF) ∧
    idle.hears = true ∧ idle.hears = true :=
  ⟨fun q => by cases q <;> decide +kernel, by decide +kernel, by decide +kernel⟩

theorem witness_IdentityTakenOnlyInNone :
    idle.hears = true ∧ idle.aff.machine = .none ∧
    unitOk (u16 0xFF 0xFE) = true ∧ groupOk (u16 0x0F 0xFF) = true ∧ unitOk (u16 0 1) = true ∧
    unitOk (u16 0 0) = false ∧ unitOk (u16 0xFF 0xFF) = false ∧ groupOk (u16 0 0) = false ∧
    groupOk (u16 0x10 0) = false ∧
    home.hears = true ∧ home.aff.machine ≠ .none ∧ groupOk (u16 0 1) = true := by
  decide +kernel

theorem witness_StatusReportsAndChangesNothing :
    home.hears = true ∧ granting.hears = true := by decide +kernel

theorem witness_NoticesSetsTheEnableSet :
    idle.hears = true ∧ u16 0x1F 0xFF < 8192 ∧
    idle.hears = true ∧ 8192 ≤ u16 0x20 0 := by decide +kernel

theorem witness_ResetIsScheduled :
    idle.hears = true ∧ (0 : Byte) = (match Scope.engine with | Scope.engine => 0 | Scope.all => 1) ∧
    idle.hears = true ∧ (1 : Byte) = (match Scope.all with | Scope.engine => 0 | Scope.all => 1) ∧
    idle.hears = true ∧ 2 ≤ (2 : Byte).toNat := by decide +kernel

theorem witness_ResetTakesEffectWhenSent :
    let engineReset := after (.reset [1, 0]) { home with link.tx := .idle }
    let allReset := after (.reset [1, 1]) { home with link.tx := .idle }
    engineReset.link.tx = .reply (Reply.bytes ⟨0x98, 1, .ok, []⟩) ∧ engineReset.link.resetDue = some .engine ∧
    allReset.link.tx = .reply (Reply.bytes ⟨0x98, 1, .ok, []⟩) ∧ allReset.link.resetDue = some .all ∧
    engineReset.conv.state ≠ .rssi ∧ ({ engineReset with conv.state := .rssi } : Part).conv.waiting ≠ some .battery ∧
    (after .recordSent { engineReset with conv := { state := .rssi, waiting := some .battery } }).conv.state =
      .battery true ∧
    (after .recordSent engineReset).link.tx =
      .notice (Queued.bytes ⟨.engineState .halted .reset none, false⟩) := by decide +kernel

/-- Every slot filled with a LEARNED record. -/
def fullTable : Part :=
  { idle with table := (List.range 24).map (fun i => some (SiteRecord.fresh (100 + i) (200 + i) .learned 0)) }

theorem witness_SitePutCreatesARecord :
    home.hears = true ∧ home.tableSound = true ∧
    siteOk (u16 0x0F 0xFF) = true ∧ channelOk (u16 3 0xFF) = true ∧ home.record (u16 0x0F 0xFF) = none ∧
    home.lowestEmpty = some 3 ∧
    fullTable.hears = true ∧ fullTable.tableSound = true ∧
    fullTable.record (u16 0 1) = none ∧ fullTable.lowestEmpty = none ∧
    fullTable.victim [] = some (0, SiteRecord.fresh 100 200 .learned 0) := by decide +kernel

theorem witness_SitePutUpdatesARecord :
    home.hears = true ∧ home.hears = true ∧
    home.tableSound = true ∧ siteOk (u16 0 9) = true ∧ channelOk (u16 1 85) = true ∧
    home.slotAt 1 = some record9 ∧ record9.site = u16 0 9 ∧ record9.channel = u16 1 85 ∧
    record9.channel ≠ u16 1 86 ∧ home.aff.serving ≠ some record9.site ∧ home.target ≠ some record9.site := by
  decide +kernel

theorem witness_SiteDropEmptiesTheSlot :
    home.hears = true ∧ home.tableSound = true ∧ siteOk (u16 0 9) = true ∧
    home.slotAt 1 = some record9 ∧ record9.site = u16 0 9 ∧ home.aff.serving ≠ some record9.site ∧
    home.target ≠ some record9.site := by decide +kernel

/-- Every slot filled with a PINNED record. -/
def pinnedTable : Part :=
  { idle with table := (List.range 24).map (fun i => some (SiteRecord.fresh (100 + i) (200 + i) .pinned 0)) }

theorem witness_SiteCommandsRefusedInOrder :
    home.hears = true ∧ siteOk (u16 0 0) = false ∧ siteOk (u16 0x10 0) = false ∧
    channelOk (u16 4 0) = false ∧
    home.record (u16 0 5) = some record5 ∧ record5.channel ≠ u16 1 85 ∧ home.aff.serving = some (u16 0 5) ∧
    listening.hears = true ∧ listening.record (u16 0 9) = some record9 ∧
    record9.channel ≠ u16 1 86 ∧ listening.aff.serving ≠ some (u16 0 9) ∧ listening.target = some (u16 0 9) ∧
    pinnedTable.hears = true ∧ pinnedTable.record (u16 0 1) = none ∧
    pinnedTable.lowestEmpty = none ∧ pinnedTable.victim [] = none ∧
    home.hears = true ∧ home.record (u16 0 77) = none ∧
    home.hears = true ∧ listening.hears = true := by decide +kernel

theorem witness_SiteGetAndSiteListReport :
    home.hears = true ∧ siteOk (u16 0 9) = true ∧
    home.find (u16 0 9) = some (1, record9) ∧ home.hears = true ∧ u16 0 0 = 0 ∧
    home.slotAt 0 = some record5 ∧ u16 0 23 = 23 ∧ fullTable.slotAt 23 = some (SiteRecord.fresh 123 223 .learned 0) ∧
    fullTable.hears = true ∧
    home.hears = true ∧ home.table.length = 24 := by decide +kernel

theorem witness_ChoicesTakeTheBestAtTheLowestPosition :
    fullTable.victim [] = some (0, SiteRecord.fresh 100 200 .learned 0) ∧ home.victim [9] = none ∧
    home.params.mode = .auto ∧ home.engine.holdoff = 0 ∧ home.best = some (1, record9) ∧
    idle.params.mode = .auto ∧ idle.engine.holdoff = 0 ∧ idle.best = none ∧ home.lossChoice [9] = none ∧
    ({ home with params.mode := .fixed } : Part).params.mode = .fixed ∧
    0 < ({ home with engine.holdoff := 1 } : Part).engine.holdoff ∧
    home.lossChoice [] = some (1, record9) := by decide +kernel

theorem witness_RunAndContinueStartTheRounds :
    let halted : Part := { home with engine := Engine.atReset none none }
    let watched : Part := { halted with engine.state := .frozen (.watch 1) }
    let faulty : Part :=
      { halted with
        engine.state := .frozen .tune, tuning.tuned := none, tuning.position := .away, tuning.fault := true
        lines.mute := true }
    halted.hears = true ∧ halted.engine.stepFlag = false ∧ halted.engine.state = .halted ∧
    halted.aff.identity.isSome = true ∧
    watched.hears = true ∧ watched.engine.stepFlag = false ∧
    watched.engine.state = .frozen (.watch 1) ∧ watched.engine.continuePending = false ∧
    faulty.hears = true ∧ faulty.engine.state = .frozen .tune ∧
    faulty.engine.continuePending = false ∧ faulty.tuning.fault = true ∧ faulty.tuning.position = .away ∧
    faulty.tuning.holder = none ∧ faulty.servingChannel = some 340 := by decide +kernel

/-- A STEP round in progress, taken in HALTED. -/
def stepping : Part :=
  { home with
    engine := { Engine.atReset none none with stepFlag := true }
    sched.work := some ⟨.home, 1, [], none⟩ }

/-- HALTED, with no STEP round. -/
def atRest (p : Part) : Part := { p with engine := Engine.atReset none none }

theorem witness_HaltAndStepDoneStopTheRounds :
    let gapped := atRest (gapping (gapAt .tuneHome .complete))
    let burst : Part := { atRest listening with sched.burst := some ⟨5, ⟨4, 1, 2, 400, .converting⟩, true⟩ }
    let lastGap : Part :=
      { gapTuning 340 .ret (gapAt .tuneHome .complete) with
        engine := { Engine.atReset none none with stepFlag := true }
        sched.work := some ⟨.home, 0, [1], none⟩ }
    let returning : Part :=
      { hopping .settling with
        tuning.op := some (opOn 340 .ret .affiliation .settling 1)
        engine := { Engine.atReset none none with stepFlag := true }
        aff.machine := .hoReturn, aff.ctx := some { context with inStep := true } }
    home.hears = true ∧ home.engine.state ≠ .halted ∧
    stepping.hears = true ∧ stepping.engine.stepFlag = true ∧
    idle.hears = true ∧ idle.engine.state = .halted ∧ idle.engine.stepFlag = false ∧
    burst.hears = true ∧ burst.engine.stepFlag = false ∧ burst.engine.state ≠ .running ∧
    burst.engine.continuePending = false ∧ burst.aff.identity.isSome = true ∧ burst.sched.burst.isSome = true ∧
    burst.aff.ctx.isSome = true ∧
    gapped.hears = true ∧ gapped.homeGap = true ∧ gapped.engine.state ≠ .running ∧
    ({ gapped with aff.ctx := some context } : Part).hears = true ∧
    (after (.step [1]) { gapped with aff.ctx := some context }).link.notices.map Queued.notice =
      [.engineState .halted .stepDone none] ∧
    lastGap.settledOutside = true ∧ lastGap.tuning.op = some (opOn 340 .ret .scheduler .settling 1) ∧
    (opOn 340 .ret .scheduler .settling 1).phase = .settling ∧ lastGap.servingChannel = some 340 ∧
    lastGap.engine.stepFlag = true ∧ lastGap.tuning.waitSched = none ∧ lastGap.tuning.waitAff = none ∧
    lastGap.tuning.retryWaiting = false ∧ lastGap.tuning.holder = some .scheduler ∧
    lastGap.sched.gap = some (gapAt .tuneHome .complete) ∧ lastGap.aff.machine = .registered ∧
    lastGap.aff.ctx = none ∧ lastGap.aff.deregisterDue = false ∧ lastGap.sched.burst = none ∧
    lastGap.sched.work = some ⟨.home, 0, [1], none⟩ ∧
    (after .settleExpiry lastGap).link.notices.map Queued.notice = [.engineState .halted .stepDone none] ∧
    returning.settledOutside = true ∧ returning.tuning.op = some (opOn 340 .ret .affiliation .settling 1) ∧
    returning.servingChannel = some 340 ∧ returning.engine.stepFlag = true ∧ returning.tuning.waitSched = none ∧
    returning.tuning.waitAff = none ∧ returning.tuning.retryWaiting = false ∧
    returning.tuning.holder = some .affiliation ∧ returning.aff.machine = .hoReturn ∧
    returning.aff.ctx = some { context with inStep := true } ∧ returning.sup.cls = some 1 ∧
    returning.sup.state ≠ .lost ∧ returning.sched.work = none ∧
    (after .settleExpiry returning).engine.stepFlag = false := by
  decide +kernel

theorem witness_EngineAndMoveCommandsRefusedInOrder :
    stepping.hears = true ∧ stepping.hears = true ∧
    stepping.hears = true ∧ stepping.engine.stepFlag = true ∧
    home.hears = true ∧ home.hears = true ∧ home.hears = true ∧
    home.engine.stepFlag = false ∧ home.engine.state = .running ∧
    idle.hears = true ∧ idle.hears = true ∧ idle.aff.identity = none ∧
    idle.hears = true ∧ idle.engine.state = .halted ∧
    ({ idle with engine.state := .frozen .tune } : Part).hears = true ∧
    ({ idle with engine.state := .frozen .tune, engine.continuePending := true } : Part).hears = true ∧
    home.hears = true ∧ siteOk (u16 0 0) = false ∧
    listening.hears = true ∧ listening.aff.machine ≠ .registered ∧
    home.record (u16 0 77) = none ∧ home.aff.serving = some (u16 0 5) ∧
    home.record (u16 0 12) = some record12 ∧ home.coChannel record12 = true ∧
    ({ home with table := home.table.set 3 (some (SiteRecord.fresh 33 610 .pinned 0)) } : Part).hears = true ∧
    (SiteRecord.fresh 33 610 .pinned 0).confirm = none := by decide +kernel

theorem witness_ARoundCountsJudgesAndAsksForWork :
    let old : Part := { home with table := home.table.set 1 (some { record9 with confirm := some 150 }) }
    let lost : Part := { home with table := home.table.set 1 none, engine.releaseOwed := true }
    home.engine.state = .running ∧ home.engine.roundTimer.isSome = true ∧
    home.slotAt 1 = some record9 ∧ home.slotAt 23 = none ∧
    ((after .roundExpiry home).slotAt 1).map SiteRecord.confirm = some (some 4) ∧
    old.engine.state = .running ∧ old.params.confirmLife = 150 ∧
    ((after .roundExpiry old).slotAt 1).map SiteRecord.confirm = some none ∧
    lost.aff.serving.isSome = true ∧ (after .roundExpiry lost).aff.serving = none ∧
    ({ home with engine := Engine.atReset none none } : Part).hears = true ∧
    (Engine.atReset none none).stepFlag = false ∧ (Engine.atReset none none).state ≠ .running ∧
    (Engine.atReset none none).continuePending = false ∧ home.aff.identity.isSome = true := by decide +kernel

/-- Site 9 stands well above the serving site, which has a level of 60. -/
def outclassed : Part :=
  { home with table := home.table.set 0 (some { record5 with level := some ⟨60, 960⟩, load := some 0 }) }

/-- No site serves, and no gap is in flight. -/
def searching : Part := { hunting (gapAt .listen .complete) with sched.gap := none, tuning := Tuning.atReset }

theorem witness_ARoundCountsJudgesAndAsksForWork_judged :
    let ready : Part := { outclassed with engine.cand := some ⟨9, 7, .better⟩ }
    let held : Part := { ready with engine.watch1 := some ⟨9, .holdOnSelect, none⟩ }
    outclassed.engine.state = .running ∧ outclassed.engine.roundTimer.isSome = true ∧
    outclassed.aff.serving = some 5 ∧ outclassed.aff.ctx = none ∧ outclassed.aff.machine = .registered ∧
    outclassed.engine.releaseOwed = false ∧ outclassed.sup.state ≠ .lost ∧
    ((outclassed.countRound.record 5).bind SiteRecord.level) = some ⟨60, 960⟩ ∧
    outclassed.countRound.best.map (fun x => (x.1, x.2.site, scoreKey outclassed.params x.2)) = some (1, 9, 140) ∧
    scoreOf outclassed.params record5 ⟨60, 960⟩ + outclassed.params.hyst ≤ 140 ∧ 1 < outclassed.params.dwell ∧
    (after .roundExpiry outclassed).engine.cand.map Candidate.count = some 1 ∧
    (after .roundExpiry { home with engine.cand := some ⟨9, 7, .better⟩ }).engine.cand = none ∧
    ready.params.dwell ≤ min 15 (7 + 1) ∧ ready.engine.holdingSlot 9 = none ∧ ready.aff.signingOff = false ∧
    ready.homeGap = false ∧ ready.tuning.holder = none ∧
    (ready.countRound.record 9).map SiteRecord.channel = some 341 ∧
    (after .roundExpiry ready).aff.machine = .hoTune ∧
    (after .roundExpiry ready).aff.ctx.map Context.cause = some .better ∧
    held.engine.holdingSlot 9 = some 1 ∧ held.engine.state ≠ .frozen .tune ∧
    (after .roundExpiry held).engine.state = .frozen (.watch 1) := by decide +kernel

theorem witness_ARoundCountsJudgesAndAsksForWork_asked :
    let converting : Part := { home with conv.state := .battery true }
    let talking : Part := { home with lines.ptt.raw := true, lines.ptt.debounced := some true }
    home.aff.serving = some 5 ∧ (after .roundExpiry home).aff.serving = some 5 ∧
    (after .roundExpiry home).aff.ctx = none ∧ home.sched.burst = none ∧ home.homeGap = false ∧
    home.active .ptt = false ∧ home.tuning.position = .home ∧ home.conv.waiting = none ∧
    (after .roundExpiry home).engine.state = .running ∧ home.conv.state = .idle ∧
    (after .roundExpiry home).sched.burst.map Burst.site = some 5 ∧
    converting.conv.state ≠ .idle ∧ (after .roundExpiry converting).conv.waiting = some .rssi ∧
    (bursting 2 .converting).sched.burst.isSome = true ∧ (after .roundExpiry (bursting 2 .converting)).sched.work = none ∧
    (gapping (gapAt .listen .complete)).homeGap = true ∧
    talking.active .ptt = true ∧ talking.sched.gap = none ∧ (after .roundExpiry talking).sched.burst = none := by
  decide +kernel

theorem witness_ARoundCountsJudgesAndAsksForWork_hunts :
    let bare : Part := { searching with table := Part.emptyTable }
    searching.engine.state = .running ∧ searching.engine.roundTimer.isSome = true ∧ searching.aff.serving = none ∧
    searching.aff.machine = .none ∧ searching.tuning.position = .parked ∧ searching.active .ptt = false ∧
    searching.aff.tx = none ∧ searching.sched.burst = none ∧ searching.sched.gap = none ∧
    searching.tuning.holder = none ∧ searching.sched.huntPtr = 0 ∧
    ((after .roundExpiry searching).slotAt 0).map SiteRecord.blocked = some false ∧
    (after .roundExpiry searching).sched.gap.map Gap.site = some 5 ∧
    (after .roundExpiry { searching with sched.huntPtr := 23 }).sched.gap.map Gap.site = some 5 ∧
    bare.aff.machine = .none ∧ (after .roundExpiry bare).sched.gap = none := by decide +kernel

/-- A watch slot on every site and every source. -/
def watchAll (mode : WatchMode) : Watch := ⟨0, mode, none⟩

theorem witness_WatchesAreSetAndAnswerWrites_writes :
    let b : Burst := ⟨5, ⟨4, 1, 3, 400, .converting⟩, true⟩
    let p : Part := { bursting 3 .converting with engine.watch0 := some (watchAll .holdOnChange) }
    let frozen : Part :=
      { home with engine := { Engine.atReset (some (watchAll .holdOnChange)) none with state := .frozen .tune } }
    (watchAll .report).Meets 5 .host ∧ (watchAll .holdOnChange).Meets 5 .beacon ∧
    (⟨5, .report, some .scan⟩ : Watch).Meets 5 .scan ∧ ¬ (⟨9, .report, none⟩ : Watch).Meets 5 .host ∧
    ¬ (watchAll .holdOnSelect).Meets 5 .scan ∧
    TakesFrame (at0 home) 1 (AirFrame.beacon ⟨5, 340, 2, 3, true, []⟩).bytes (.beacon ⟨5, 340, 2, 3, true, []⟩) ∧
    home.hears = true ∧ siteOk (u16 0 9) = true ∧ channelOk (u16 1 85) = true ∧ home.record (u16 0 9) = some record9 ∧
    record9.channel = u16 1 85 ∧ home.engine.state = .running ∧
    frozen.hears = true ∧ frozen.engine.state = .frozen .tune ∧ frozen.engine.watch0 = some (watchAll .holdOnChange) ∧
    frozen.engine.watch1 = none ∧ (after (.sitePut [1, 0, 9, 1, 85, 0]) frozen).engine.state = .frozen .tune ∧
    home.tuning.tuned = some 340 ∧ home.aff.serving = some 5 ∧ home.aff.machine = .registered ∧
    home.tuning.position = .home ∧ home.sup.active = true ∧ home.sup.state = .healthy ∧
    home.record 5 = some record5 ∧
    p.settledOutside = true ∧ p.engine.state = .running ∧ p.conv.state = .rssi ∧ p.conv.waiting = none ∧
    p.sched.burst = some b ∧ b.run.taken + 1 = b.run.count ∧ p.sched.work = none ∧ p.record 5 = some record5 ∧
    (after (.rssiConversionDone 80) p).link.notices.map Queued.notice =
      [.watchReport 0 5 .scan (some ⟨120, 2000⟩), .engineState (.frozen (.watch 0)) .watch (some 0)] := by
  refine ⟨by simp only [Watch.Meets]; decide +kernel, by simp only [Watch.Meets]; decide +kernel,
    by simp only [Watch.Meets]; decide +kernel, by simp only [Watch.Meets]; decide +kernel,
    by simp only [Watch.Meets]; decide +kernel, takes _ _ _ (by decide +kernel), by decide +kernel⟩

theorem witness_WatchesAreSetAndAnswerWrites :
    idle.hears = true ∧ idle.hears = true ∧
    watchModeOfCode (2 : Byte).toNat = some .holdOnSelect ∧ watchSourceOfCode (3 : Byte).toNat = some none ∧
    u16 0x0F 0xFF ≤ 4095 ∧
    idle.hears = true ∧ 2 ≤ (2 : Byte).toNat ∧
    idle.hears = true ∧ 4095 < u16 0x10 0 ∧
    idle.hears = true ∧ 2 < (3 : Byte).toNat ∧
    idle.hears = true ∧ 3 < (4 : Byte).toNat ∧
    idle.hears = true ∧ idle.hears = true ∧
    idle.hears = true := by decide +kernel

theorem witness_TuneAttemptRunsToSettling :
    (hopping .shifting).settledOutside = true ∧
    (hopping .shifting).tuning.op = some (opOn 341 .away .affiliation .shifting 1) ∧
    (opOn 341 .away .affiliation .shifting 1).atLatch = .proceed ∧
    (hopping .blanking).settledOutside = true ∧ (hopping .blanking).params.settleMs ≠ 0 ∧
    (hopping .waiting).settledOutside = true ∧
    (opOn 341 .away .affiliation .blanking 1).phase ≠ .waiting := by decide +kernel

theorem witness_HandoverTunesEnd :
    let returning (phase : TunePhase) (attempt : Nat) : Part :=
      { hopping phase with
        aff.machine := .hoReturn, tuning.op := some (opOn 340 .ret .affiliation phase attempt) }
    let atOnce (phase : TunePhase) : Part := { returning phase 1 with params.settleMs := 0 }
    (hopping .settling).settledOutside = true ∧
    (hopping .settling).tuning.op = some (opOn 341 .away .affiliation .settling 1) ∧
    (opOn 341 .away .affiliation .settling 1).owner = .affiliation ∧ (hopping .settling).aff.machine = .hoTune ∧
    (hopping .settling).servingChannel = some 340 ∧ 341 ≠ 340 ∧ (hopping .settling).tuning.position ≠ .home ∧
    ({ hopping .waiting with params.settleMs := 0 } : Part).settledOutside = true ∧
    ({ hopping .waiting with params.settleMs := 0 } : Part).params.settleMs = 0 ∧
    ({ hopping .blanking with params.settleMs := 0 } : Part).settledOutside = true ∧
    (returning .settling 1).settledOutside = true ∧
    (returning .settling 1).tuning.op = some (opOn 340 .ret .affiliation .settling 1) ∧
    (returning .settling 1).aff.machine = .hoReturn ∧ (returning .settling 1).aff.ctx = some context ∧
    (returning .settling 1).servingChannel = some 340 ∧ (returning .settling 1).sup.cls = some 1 ∧
    (returning .settling 1).tuning.holder = some .affiliation ∧ (returning .settling 1).tuning.waitSched = none ∧
    (returning .settling 1).tuning.waitAff = none ∧ (returning .settling 1).tuning.retryWaiting = false ∧
    (returning .settling 1).engine.stepFlag = false ∧
    (atOnce .waiting).settledOutside = true ∧ (atOnce .blanking).settledOutside = true ∧
    (atOnce .waiting).params.settleMs = 0 ∧
    (after .settleExpiry (returning .settling 1)).sup.timer = some 500 ∧
    (after .settleExpiry (returning .settling 1)).lines.muteEdges = 1 ∧
    (returning .waiting 2).settledOutside = true ∧ (opOn 340 .ret .affiliation .waiting 2).lockWait.isSome = true ∧
    (returning .waiting 2).tuning.tuned = none ∧ (returning .waiting 2).tuning.position ≠ .home ∧
    (after .lockWaitExpiry (returning .waiting 2)).aff.machine = .registered := by decide +kernel

theorem witness_GapsRunTheirCourse :
    let away := gapTuning 341 .away (gapAt .tuneAway .waiting)
    let back := gapTuning 340 .ret (gapAt .tuneHome .complete)
    let g : Gap := { gapAt .sample .converting with kind := .short, run := ⟨4, 1, 3, 450, .converting⟩, listenTimer := none }
    let short : Part := { gapping g with conv.state := .rssi }
    away.settledOutside = true ∧ away.tuning.op = some (opOn 341 .away .scheduler .settling 1) ∧
    away.sched.gap = some (gapAt .tuneAway .waiting) ∧ away.servingChannel = some 340 ∧ away.sched.burst = none ∧
    away.conv.state = .idle ∧ 341 ≠ 340 ∧ away.tuning.position ≠ .home ∧
    (huntTuning .settling).settledOutside = true ∧ (huntTuning .settling).aff.serving = none ∧
    (huntTuning .settling).sched.gap = some { gapAt .tuneAway .waiting with kind := .hunt } ∧
    (huntTuning .settling).tuning.op = some (opOn 341 .away .scheduler .settling 1) ∧
    (huntTuning .settling).conv.state = .idle ∧ (huntTuning .settling).tuning.position ≠ .home ∧
    back.settledOutside = true ∧ back.tuning.op = some (opOn 340 .ret .scheduler .settling 1) ∧
    back.sched.gap = some (gapAt .tuneHome .complete) ∧ back.servingChannel = some 340 ∧
    back.tuning.holder = some .scheduler ∧ back.tuning.waitSched = none ∧ back.tuning.waitAff = none ∧
    back.tuning.retryWaiting = false ∧ back.aff.machine = .registered ∧ back.aff.ctx = none ∧
    back.aff.deregisterDue = false ∧ back.sched.work = none ∧ back.engine.stepFlag = false ∧
    short.settledOutside = true ∧ short.sched.gap = some g ∧ g.run.taken + 1 = g.run.count ∧ g.noted = none ∧
    short.sched.burst = none ∧ short.conv.state = .rssi ∧ short.conv.waiting = none ∧
    short.servingChannel = some 340 ∧ short.tuning.holder = some .scheduler ∧ short.tuning.op = none ∧
    short.tuning.position ≠ .home ∧ short.engine.watch0 = none ∧ short.engine.watch1 = none ∧
    ((after (.rssiConversionDone 150) short).slotAt 1).bind SiteRecord.level = some ⟨150, 2400⟩ ∧
    (after .settleExpiry back).lines.muteEdges = 1 := by decide +kernel

/-- The beacon of site 9 on channel 341. -/
def heardBeacon (accepting : Bool) : Beacon := ⟨9, 341, 2, 3, accepting, []⟩

/-- A gap on channel 341 that listens, with the mean 150 or 37 in its samples. -/
def listenGap (kind : GapKind) (sum : Nat) : Gap :=
  { gapAt .listen .complete with kind := kind, run := ⟨4, 1, 4, sum, .complete⟩ }

theorem witness_GapsRunTheirCourse_beacon :
    let p := gapping (listenGap .long 600)
    let good := hunting (listenGap .hunt 600)
    let weak := hunting (listenGap .hunt 148)
    TakesFrame (at0 p) 1 (AirFrame.beacon (heardBeacon true)).bytes (.beacon (heardBeacon true)) ∧
    TakesFrame (at0 good) 1 (AirFrame.beacon (heardBeacon true)).bytes (.beacon (heardBeacon true)) ∧
    TakesFrame (at0 weak) 1 (AirFrame.beacon (heardBeacon true)).bytes (.beacon (heardBeacon true)) ∧
    p.sched.gap = some (listenGap .long 600) ∧ p.tuning.tuned = some 341 ∧ p.record 9 = some record9 ∧
    record9.channel = 341 ∧ p.conv.state ≠ .rssi ∧ p.tuning.op = none ∧ p.aff.machine = .registered ∧
    p.servingChannel = some 340 ∧ p.tuning.position ≠ .home ∧
    good.sched.gap = some (listenGap .hunt 600) ∧ good.tuning.tuned = some 341 ∧ good.aff.machine = .none ∧
    good.aff.serving = none ∧ good.aff.ctx = none ∧ good.aff.signingOff = false ∧ good.aff.deregisterDue = false ∧
    good.tuning.position = .parked ∧ good.tuning.fault = false ∧ good.tuning.holder = some .scheduler ∧
    good.sched.work = none ∧ good.engine.stepFlag = false ∧ good.engine.state = .running ∧
    good.params.acceptMin = 50 ∧ (listenGap .hunt 600).run.mean = 150 ∧ good.aff.identity.isSome = true ∧
    record9.blocked = false ∧ (listenGap .hunt 148).run.mean = 37 ∧
    (after (.airIn (1 :: (AirFrame.beacon (heardBeacon true)).bytes)) good).aff.machine = .hoTune :=
  ⟨takes _ _ _ (by decide +kernel), takes _ _ _ (by decide +kernel), takes _ _ _ (by decide +kernel), by decide +kernel⟩

theorem witness_LockWaitExpiryRetriesFreezesOrFails :
    let back (attempt : Nat) : Part :=
      { gapping (gapAt .tuneHome .complete) with
        tuning.op := some (opOn 340 .ret .scheduler .waiting attempt), tuning.tuned := none }
    let returning : Part :=
      { moving .hoReturn none with tuning.op := some (opOn 340 .ret .affiliation .waiting 2), tuning.tuned := none }
    let retrying : Part :=
      { home with
        tuning.op := some (opOn 340 .ret .engine .waiting 2), tuning.tuned := none, tuning.position := .away
        tuning.holder := some .engine, tuning.fault := true, lines.mute := true
        engine.state := .frozen .tune, engine.roundTimer := none, engine.continuePending := true }
    (back 1).settledOutside = true ∧ (back 1).tuning.op = some (opOn 340 .ret .scheduler .waiting 1) ∧
    (back 2).settledOutside = true ∧ (back 2).tuning.op = some (opOn 340 .ret .scheduler .waiting 2) ∧
    (opOn 340 .ret .scheduler .waiting 2).lockWait.isSome = true ∧ (back 2).servingChannel = some 340 ∧
    (back 2).tuning.tuned = none ∧ (back 2).sched.gap = some (gapAt .tuneHome .complete) ∧
    let away : Part :=
      { gapping (gapAt .tuneAway .waiting) with
        tuning.op := some (opOn 341 .away .scheduler .waiting 1), tuning.tuned := none }
    away.settledOutside = true ∧ away.tuning.op = some (opOn 341 .away .scheduler .waiting 1) ∧
    away.tuning.tuned = none ∧ away.sched.gap = some (gapAt .tuneAway .waiting) ∧ away.conv.state ≠ .rssi ∧
    away.conv.waiting ≠ some .rssi ∧ away.tuning.holder = some .scheduler ∧ away.tuning.position ≠ .home ∧
    away.servingChannel = some 340 ∧ (gapAt .tuneAway .waiting).standing = true ∧
    (huntTuning .waiting).settledOutside = true ∧ (huntTuning .waiting).sched.work = none ∧
    (huntTuning .waiting).aff.serving = none ∧ (huntTuning .waiting).tuning.tuned = none ∧
    ((after .lockWaitExpiry (huntTuning .waiting)).slotAt 1).map SiteRecord.failures = some 1 ∧
    returning.settledOutside = true ∧ returning.aff.machine = .hoReturn ∧ returning.servingChannel = some 340 ∧
    retrying.settledOutside = true ∧ retrying.servingChannel = some 340 := by decide +kernel

theorem witness_SamplesAreTakenAndAddedUp :
    let gapRun (phase : SamplePhase) : Part := { gapping (gapAt .sample phase) with conv.state := .rssi }
    ({ bursting 1 .spacing with conv.state := .rssi } : Part).settledOutside = true ∧
    (bursting 2 .converting).settledOutside = true ∧ (bursting 2 .converting).conv.state = .rssi ∧
    (bursting 2 .converting).sched.burst = some ⟨5, ⟨4, 1, 2, 400, .converting⟩, true⟩ ∧ 2 + 1 < 4 ∧
    (gapRun .spacing).settledOutside = true ∧ (gapRun .spacing).conv.state = .rssi ∧
    (gapRun .spacing).sched.burst = none ∧ (gapRun .spacing).sched.gap = some (gapAt .sample .spacing) ∧
    (gapRun .converting).settledOutside = true ∧ (gapAt .sample .converting).run.taken + 1 < 4 := by decide +kernel

theorem witness_ServingBurstIsCreditedAndAGapStarts :
    let p := bursting 3 .converting
    let apart : List (Option SiteRecord) := home.table.set 20 (some (SiteRecord.fresh 33 610 .pinned 0))
    let due : Part := { p with sched.work := some ⟨.home, 2, [], none⟩ }
    let pending : Part := { due with table := apart, engine.cand := some ⟨33, 1, .better⟩ }
    let calling : Part := { due with lines.call.debounced := some true, lines.call.raw := true }
    let alone : Part := { due with table := home.table.set 1 none }
    due.settledOutside = true ∧ due.sched.gap = none ∧ due.sched.work = some ⟨.home, 2, [], none⟩ ∧
    due.aff.serving = some 5 ∧ due.servingChannel = some 340 ∧ due.tuning.holder = none ∧ due.sched.visitPtr < 24 ∧
    due.engine.watch0 = none ∧ due.engine.watch1 = none ∧ due.slotAt 1 = some record9 ∧ record9.site ≠ 5 ∧
    record9.channel ≠ 340 ∧ record9.blocked = false ∧ due.slotAt 2 = some record12 ∧ record12.channel = 340 ∧
    due.tuning.position = .home ∧ due.active .ptt = false ∧ due.active .call = false ∧ due.aff.tx = none ∧
    due.aff.machine = .registered ∧ due.lines.battery = .normal ∧
    (after (.rssiConversionDone 80) due).sched.gap.map (fun g => (g.position, g.kind, g.fromPending)) =
      some (1, .short, false) ∧
    (after (.rssiConversionDone 80) { due with table := apart, sched.visitPtr := 2 }).sched.gap.map Gap.position =
      some 20 ∧
    pending.find 33 = some (20, SiteRecord.fresh 33 610 .pinned 0) ∧
    (after (.rssiConversionDone 80) pending).sched.gap.map (fun g => (g.position, g.kind, g.fromPending)) =
      some (20, .long, true) ∧
    calling.settledOutside = true ∧ calling.active .call = true ∧ (after (.rssiConversionDone 80) calling).sched.gap = none ∧
    alone.settledOutside = true ∧ (after (.rssiConversionDone 80) alone).sched.work = none ∧
    p.settledOutside = true ∧ p.conv.state = .rssi ∧ p.conv.waiting = none ∧
    p.sched.burst = some ⟨5, ⟨4, 1, 3, 400, .converting⟩, true⟩ ∧ 3 + 1 = 4 ∧
    ((after (.rssiConversionDone 80) p).slotAt 0).bind SiteRecord.level = some ⟨120, 2000⟩ := by decide +kernel

theorem midGap (g : Gap) (p : Part)
    (h : (decide (p.sched.gap = some g) && g.kind != .hunt && decide (p.servingChannel = some 340) &&
      decide (p.tuning.holder = some .scheduler) && decide (p.tuning.op = none) && p.tuning.position != .home &&
      p.conv.state != .rssi && p.conv.waiting != some .rssi) = true) : p.MidGap g 340 := by
  simp only [Bool.and_eq_true, decide_eq_true_eq, bne_iff_ne] at h
  exact ⟨h.1.1.1.1.1.1.1, h.1.1.1.1.1.1.2, h.1.1.1.1.1.2, h.1.1.1.1.2, h.1.1.1.2, h.1.1.2, h.1.2, h.2⟩

theorem witness_AVisitWithNoBeaconFails :
    let g := gapAt .listen .complete
    let p := gapping g
    p.MidGap g 340 ∧ p.settledOutside = true ∧ g.listenTimer.isSome = true ∧ g.noted = none ∧
    g.kind = .long ∧ g.phase = .listen ∧ g.standing = true ∧
    ((after .listenExpiry p).slotAt 1).map SiteRecord.failures = some 1 :=
  ⟨midGap _ _ (by decide +kernel), by decide +kernel⟩

theorem witness_LevelArithmeticStaysInRange :
    1 ≤ Params.defaults.kUp ∧ Params.defaults.kUp ≤ 16 ∧ 1 ≤ Params.defaults.kDown ∧ Params.defaults.kDown ≤ 16 ∧
    tuningWord 16383 1023 = 0xFFFFFF ∧ tuningWord 0 0 = 0 := by decide +kernel

theorem witness_IntervalsAreJudged :
    let running : Part := { home with sup.state := .fading, sup.coarse := 1 }
    let fading : Part := { running with engine := Engine.atReset none none }
    let chained : Part := { fading with params.superMode := .chained, sup.fine := 1 }
    let alone : Part := { running with table := home.table.set 1 none }
    let held : Part := { running with engine.watch1 := some ⟨0, .holdOnSelect, none⟩ }
    home.settledOutside = true ∧ home.sup.timer = some 500 ∧ home.aff.serving = some 5 ∧ home.sup.cls = some 1 ∧
    ({ home with sup.pttNoted := true } : Part).sup.pttNoted = true ∧ home.sup.state ≠ .lost ∧
    home.sup.pttNoted = false ∧ ({ home with sup.gapNoted := true } : Part).sup.gapNoted = true ∧
    home.sup.excuse = false ∧ home.sup.gapNoted = false ∧ home.sup.state = .healthy ∧ 2 ≤ home.sup.fine ∧
    ({ home with sup.fine := 1 } : Part).sup.fine = 1 ∧
    fading.settledOutside = true ∧ fading.sup.timer = some 500 ∧ fading.params.superMode = .direct ∧
    fading.sup.coarse = 1 ∧ fading.engine.state ≠ .running ∧ fading.engine.stepFlag = false ∧
    2 ≤ ({ fading with sup.coarse := 2 } : Part).sup.coarse ∧
    chained.settledOutside = true ∧ chained.params.superMode = .chained ∧ chained.sup.fine = 1 ∧
    chained.sup.coarse = 1 ∧ 2 ≤ ({ chained with sup.fine := 2 } : Part).sup.fine ∧
    running.settledOutside = true ∧ running.params.mode = .auto ∧ running.engine.state = .running ∧
    running.aff.machine = .registered ∧ running.aff.ctx = none ∧ running.aff.signingOff = false ∧
    alone.settledOutside = true ∧ alone.lossChoice [] = none ∧
    running.lossChoice [] = some (1, record9) ∧ running.record record9.site = some record9 ∧
    running.engine.holdingSlot 9 = none ∧ running.homeGap = false ∧ running.tuning.holder = none ∧
    (after .intervalExpiry running).aff.machine = .hoTune ∧
    held.settledOutside = true ∧ held.lossChoice [] = some (1, record9) ∧ held.engine.holdingSlot 9 = some 1 := by
  decide +kernel

def servingBeacon : Beacon := ⟨5, 340, 2, 3, true, []⟩

theorem witness_ServingBeaconReloadsAndTeaches :
    let known : Part := { home with table := home.table.set 3 (some (SiteRecord.fresh 33 610 .learned 0)) }
    TakesFrame (at0 home) 1 (AirFrame.beacon servingBeacon).bytes (.beacon servingBeacon) ∧
    TakesFrame (at0 home) 1 (AirFrame.beacon { servingBeacon with neighbours := [(33, 610), (9, 341)] }).bytes
      (.beacon { servingBeacon with neighbours := [(33, 610), (9, 341)] }) ∧
    home.tuning.tuned = some servingBeacon.channel ∧ home.aff.serving = some servingBeacon.site ∧
    home.aff.machine = .registered ∧ home.tuning.position = .home ∧ home.sup.active = true ∧
    home.record servingBeacon.site = some record5 ∧ record5.channel = servingBeacon.channel ∧
    servingBeacon.neighbours = [] ∧ home.engine.watch0 = none ∧ home.engine.watch1 = none ∧
    home.sup.state = .healthy ∧
    home.tableSound = true ∧ home.aff.serving ≠ some 33 ∧ home.record 33 = none ∧ home.lowestEmpty = some 3 ∧
    fullTable.tableSound = true ∧ fullTable.aff.serving ≠ some 33 ∧ fullTable.record 33 = none ∧
    fullTable.lowestEmpty = none ∧ fullTable.victim [] = some (0, SiteRecord.fresh 100 200 .learned 0) ∧
    pinnedTable.tableSound = true ∧ pinnedTable.record 33 = none ∧ pinnedTable.lowestEmpty = none ∧
    pinnedTable.victim [] = none ∧
    known.tableSound = true ∧ known.record 33 = some (SiteRecord.fresh 33 610 .learned 0) ∧ known.target ≠ some 33 :=
  ⟨takes _ _ _ (by decide +kernel), takes _ _ _ (by decide +kernel), by decide +kernel⟩

theorem witness_MoveBeginsAHandover :
    let back := gapping (gapAt .tuneHome .complete)
    let waiting := gapping (gapAt .listen .complete)
    waiting.MidGap (gapAt .listen .complete) 340 ∧
    home.hears = true ∧ siteOk (u16 0 9) = true ∧ home.aff.machine = .registered ∧
    home.aff.ctx = none ∧ home.aff.signingOff = false ∧ home.record (u16 0 9) = some record9 ∧
    home.aff.serving = some 5 ∧ 5 ≠ u16 0 9 ∧ home.servingChannel = some 340 ∧ record9.channel ≠ 340 ∧
    record9.confirm.isSome = true ∧ home.homeGap = false ∧ home.tuning.holder = none ∧ home.sched.burst = none ∧
    back.hears = true ∧ back.aff.machine = .registered ∧ back.aff.ctx = none ∧
    back.record (u16 0 9) = some record9 ∧ back.servingChannel = some 340 ∧
    back.sched.gap = some (gapAt .tuneHome .complete) ∧ (gapAt .tuneHome .complete).kind ≠ .hunt ∧
    waiting.hears = true ∧ (gapAt .listen .complete).phase = .listen ∧
    (after (.move [1, 0, 9]) home).aff.machine = .hoTune ∧ (after (.move [1, 0, 9]) home).lines.muteEdges = 1 :=
  ⟨midGap _ _ (by decide +kernel), by decide +kernel⟩

/-- R119, R196: a site ID 0, and a kind of no frame, are malformed. -/
theorem test_site_zero_is_malformed :
    answer (.airIn [1, 0x15, 0, 0]) home = some (.badArg, []) ∧ answer (.airIn [1, 0x18, 0, 5]) home = some (.badArg, []) ∧
    answer (.airIn [1, 0x23, 0, 0, 0, 100, 0, 255, 0]) home = some (.badArg, []) := by decide +kernel

theorem witness_FramesForOthersAreDiscarded_malformed :
    ([0x18, 0, 5] : List Byte).headD 0 ≠ 0x23 ∧ (∀ f : AirFrame, f.inRange = true → f.bytes ≠ [0x18, 0, 5]) ∧
    ([0x23, 0, 5] : List Byte).headD 0 = 0x23 ∧ ([0x23, 0, 5] : List Byte).length ≠ 8 ∧
    siteOk (u16 (([0x23, 0, 0, 0, 100, 0, 255, 0] : List Byte).getD 1 0) 0) = false := by
  refine ⟨by decide, fun f _ h => ?_, by decide, by decide, by decide +kernel⟩
  cases f <;> simp [AirFrame.bytes] at h

theorem witness_FramesForOthersAreDiscarded :
    home.hears = true ∧ parseAir [0x15, 0, 0] = none ∧
    home.hears = true ∧ parseAir (List.replicate 33 0x11) = none ∧
    TakesFrame (at0 home) 1 (AirFrame.beacon ⟨9, 341, 0, 0, true, []⟩).bytes (.beacon ⟨9, 341, 0, 0, true, []⟩) ∧
    home.Discards (.beacon ⟨9, 341, 0, 0, true, []⟩) ∧
    TakesFrame (at0 home) 1 (AirFrame.rollCall 9).bytes (.rollCall 9) ∧ home.Discards (.rollCall 9) ∧
    TakesFrame (at0 home) 1 (AirFrame.grant 9 100 none .need).bytes (.grant 9 100 none .need) ∧
    home.Discards (.grant 9 100 none .need) ∧
    TakesFrame (at0 home) 1 (AirFrame.refuse 9 100 .full 0).bytes (.refuse 9 100 .full 0) ∧
    home.Discards (.refuse 9 100 .full 0) ∧
    TakesFrame (at0 home) 1 (AirFrame.release 5 99 0).bytes (.release 5 99 0) ∧ home.Discards (.release 5 99 0) ∧
    TakesFrame (at0 home) 1 (AirFrame.statusQuery 5 99).bytes (.statusQuery 5 99) ∧
    home.Discards (.statusQuery 5 99) ∧
    TakesFrame (at0 home) 1 (AirFrame.direct 5 .group 8 9 341).bytes (.direct 5 .group 8 9 341) ∧
    home.Discards (.direct 5 .group 8 9 341) ∧
    TakesFrame (at0 home) 1 registerFrame.bytes registerFrame ∧ home.Discards registerFrame := by
  refine ⟨by decide +kernel, by decide +kernel, by decide +kernel, by decide +kernel, ?_, ?_, ?_, ?_, ?_, ?_, ?_, ?_, ?_,
    ?_, ?_, ?_, ?_, ?_, ?_, trivial⟩
  all_goals first | exact takes _ _ _ (by decide +kernel) | (simp only [Part.Discards]; decide +kernel)

theorem witness_GrantMakesTheTargetServing :
    TakesFrame (at0 granting) 1 (AirFrame.grant 9 100 (some 31) .need).bytes (.grant 9 100 (some 31) .need) ∧
    granting.aff.identity.map Identity.unit = some 100 ∧ granting.aff.ctx = some context ∧ context.target = 9 ∧
    context.cls = some 2 ∧ granting.aff.machine = .hoGrant ∧ sending.aff.machine = .hoSend ∧
    granting.aff.serving ≠ some 9 ∧ granting.engine.stepFlag = false ∧ granting.tuning.retryWaiting = false ∧
    granting.record 9 = some record9 ∧ granting.tuning.tuned = some record9.channel ∧ granting.tuning.op = none ∧
    granting.tuning.waitSched = none ∧ granting.tuning.waitAff = none ∧
    (after (.airIn (1 :: (AirFrame.grant 9 100 (some 31) .need).bytes)) granting).lines.muteEdges = 1 :=
  ⟨takes _ _ _ (by decide +kernel), by decide +kernel⟩

/-- The grant wait with the last REGISTER made. -/
def lastTry : Part := { granting with params.regTries := 1 }

theorem midHandover (p : Part)
    (h : (decide (p.aff.ctx = some context) && decide (p.servingChannel = some 340) &&
      decide (p.tuning.holder = some .affiliation) && p.tuning.position != .home) = true) :
    ({ p with tuning.op := none } : Part).MidHandover context 340 := by
  simp only [Bool.and_eq_true, decide_eq_true_eq, bne_iff_ne] at h
  exact ⟨h.1.1.1, rfl, h.1.1.2, h.1.2, rfl, h.2⟩

/-- PTT pressed, with its debounce timer running. -/
def pressing (p : Part) : Part := { p with lines.ptt.raw := true, lines.ptt.debounced := some false }

theorem witness_EachFailureGoesBack :
    (({ hopping .waiting with tuning.op := none } : Part).MidHandover context 340 ∧
      ({ listening with tuning.op := none } : Part).MidHandover context 340 ∧
      ({ lastTry with tuning.op := none } : Part).MidHandover context 340 ∧
      ({ sending with tuning.op := none } : Part).MidHandover context 340 ∧
      ({ pressing listening with tuning.op := none } : Part).MidHandover context 340 ∧
      ({ pressing (hopping .shifting) with tuning.op := none } : Part).MidHandover context 340) ∧
    TakesFrame (at0 listening) 1 (AirFrame.beacon (heardBeacon false)).bytes (.beacon (heardBeacon false)) ∧
    TakesFrame (at0 granting) 1 (AirFrame.refuse context.target 100 .full 0).bytes
      (.refuse context.target 100 .full 0) ∧
    (hopping .waiting).settledOutside = true ∧ (hopping .waiting).params.failBar ≠ 0 ∧
    (hopping .waiting).tuning.op = some (opOn 341 .away .affiliation .waiting 1) ∧
    (hopping .waiting).tuning.tuned = none ∧ (hopping .waiting).aff.machine = .hoTune ∧
    listening.settledOutside = true ∧ listening.tuning.op = none ∧
    listening.aff.hoTimer.map HoTimer.kind = some .beaconWait ∧
    listening.aff.machine = .hoListen ∧ (heardBeacon false).site = context.target ∧
    listening.tuning.tuned = some (heardBeacon false).channel ∧ listening.record 9 = some record9 ∧
    record9.channel = (heardBeacon false).channel ∧ listening.sched.gap = none ∧ listening.engine.watch0 = none ∧
    listening.engine.watch1 = none ∧
    lastTry.settledOutside = true ∧ lastTry.aff.hoTimer.map HoTimer.kind = some .grantWait ∧
    lastTry.params.regTries ≤ context.attempts ∧
    sending.settledOutside = true ∧ sending.aff.tx = some ⟨.register, registerFrame, 0, 1⟩ ∧
    sending.aff.txTimer.isSome = true ∧ sending.aff.machine = .hoSend ∧ sending.aff.registerDue = false ∧
    sending.aff.deregisterDue = false ∧
    granting.settledOutside = true ∧ granting.aff.identity.map Identity.unit = some 100 ∧
    granting.aff.machine = .hoGrant ∧ granting.tuning.op = none ∧
    (pressing listening).settledOutside = true ∧ (pressing listening).lines.ptt.timer.isSome = true ∧
    (pressing listening).lines.ptt.debounced = some (!(pressing listening).lines.ptt.raw) ∧
    (pressing listening).lines.ptt.polarity.activeAt (pressing listening).lines.ptt.raw = true ∧
    (pressing listening).lines.ptt.report = false ∧ (pressing listening).sched.burst = none ∧
    (pressing listening).sup.timer = none ∧
    (pressing (hopping .shifting)).settledOutside = true ∧ (pressing (hopping .waiting)).settledOutside = true ∧
    (pressing (hopping .shifting)).tuning.op = some (opOn 341 .away .affiliation .shifting 1) ∧
    (opOn 341 .away .affiliation .shifting 1).atLatch = .proceed ∧
    (after (.debounceExpiry .ptt) (pressing listening)).aff.machine = .hoReturn := by
  refine ⟨⟨?_, ?_, ?_, ?_, ?_, ?_⟩, takes _ _ _ (by decide +kernel), takes _ _ _ (by decide +kernel), by decide +kernel⟩
  all_goals exact midHandover _ (by decide +kernel)

theorem witness_AnEventEndsAfterThreeTargets :
    let ctx : Context := { context with cause := .loss, canReturn := false, tried := [12, 33] }
    let p : Part := { listening with aff.ctx := some ctx }
    p.settledOutside = true ∧ p.aff.ctx = some ctx ∧ ctx.canReturn = false ∧
    p.aff.hoTimer.map HoTimer.kind = some .beaconWait ∧ 2 ≤ ctx.tried.length ∧
    (after .beaconWaitExpiry p).aff.machine = .none := by decide +kernel

/-- A request of one kind outstanding, with number 255. -/
def asking (kind : TxKind) (frame : AirFrame) (p : Part) : Part :=
  { p with aff.tx := some ⟨kind, frame, 0, 255⟩, aff.txTimer := some 1000, aff.lastNumber := 255 }

theorem witness_HandoverIssuesRegisters :
    let busy := asking .rollAnswer (.rollAnswer 5 100 none) listening
    let waiting : Part :=
      { asking .rollAnswer (.rollAnswer 5 100 none) (moving .hoSend none) with aff.registerDue := true }
    TakesFrame (at0 listening) 1 (AirFrame.beacon (heardBeacon true)).bytes (.beacon (heardBeacon true)) ∧
    TakesFrame (at0 busy) 1 (AirFrame.beacon (heardBeacon true)).bytes (.beacon (heardBeacon true)) ∧
    granting.settledOutside = true ∧ granting.aff.ctx = some context ∧ granting.aff.machine = .hoGrant ∧
    granting.aff.hoTimer.map HoTimer.kind = some .grantWait ∧ context.attempts < granting.params.regTries ∧
    granting.aff.tx = none ∧
    listening.aff.ctx = some context ∧ listening.aff.machine = .hoListen ∧ (heardBeacon true).site = context.target ∧
    listening.tuning.tuned = some 341 ∧ listening.record 9 = some record9 ∧ record9.channel = 341 ∧
    listening.sched.gap = none ∧ listening.engine.watch0 = none ∧ listening.engine.watch1 = none ∧
    listening.aff.tx = none ∧ busy.aff.machine = .hoListen ∧ busy.aff.tx.isSome = true ∧
    (after (.airIn (1 :: (AirFrame.beacon (heardBeacon true)).bytes)) listening).aff.tx.map TxReq.frame =
      some (.register 9 100 7 5 false) ∧
    (after (.airIn (1 :: (AirFrame.beacon (heardBeacon true)).bytes)) listening).aff.ctx.map Context.cls =
      some (some 3) ∧
    (after (.airIn (1 :: (AirFrame.beacon (heardBeacon true)).bytes)) busy).aff.registerDue = true ∧
    waiting.settledOutside = true ∧ waiting.aff.tx = some ⟨.rollAnswer, .rollAnswer 5 100 none, 0, 255⟩ ∧
    waiting.aff.txTimer.isSome = true ∧ waiting.aff.ctx = some context ∧ waiting.aff.machine = .hoSend ∧
    waiting.aff.hoTimer = none ∧ waiting.aff.registerDue = true ∧
    (after .txWaitExpiry waiting).aff.tx.map TxReq.number = some 1 :=
  ⟨takes _ _ _ (by decide +kernel), takes _ _ _ (by decide +kernel), by decide +kernel⟩

def reportFrame : AirFrame := .statusReport 5 100 ⟨true, false, false, false⟩ (some 130) 1

theorem witness_AirSentEndsTheRequest :
    let signing : Part := { asking .deregister (.deregister 5 100) home with aff.signingOff := true }
    home.hears = true ∧ home.aff.tx = none ∧
    (∀ number, number ∈ [(0 : Byte), 254] → 255 ≠ number.toNat) ∧
    (asking .rollAnswer (.rollAnswer 5 100 none) home).hears = true ∧
    (asking .statusReport reportFrame home).hears = true ∧
    home.aff.registerDue = false ∧ home.aff.deregisterDue = false ∧ 255 = (255 : Byte).toNat ∧
    sending.hears = true ∧ sending.aff.tx = some ⟨.register, registerFrame, 0, 1⟩ ∧
    sending.aff.machine = .hoSend ∧ sending.aff.ctx = some context ∧ sending.aff.registerDue = false ∧
    sending.aff.deregisterDue = false ∧
    signing.hears = true ∧ signing.aff.registerDue = false ∧
    (asking .rollAnswer (.rollAnswer 5 100 none) home).settledOutside = true ∧
    (asking .rollAnswer (.rollAnswer 5 100 none) home).aff.txTimer.isSome = true ∧ 2 ≤ (2 : Byte).toNat ∧
    answer (.airSent [1, 255, 2]) (asking .rollAnswer (.rollAnswer 5 100 none) home) = some (.badArg, []) := by
  decide +kernel

theorem witness_SignOffIssuesDeregister :
    let listens := gapping (gapAt .listen .complete)
    let back := gapping (gapAt .tuneHome .complete)
    let ending : Part :=
      { gapTuning 340 .ret (gapAt .tuneHome .complete) with aff.signingOff := true, aff.deregisterDue := true }
    let answered : Part :=
      { asking .rollAnswer (.rollAnswer 5 100 (some 3)) home with aff.signingOff := true, aff.deregisterDue := true }
    listens.MidGap (gapAt .listen .complete) 340 ∧
    home.hears = true ∧ home.aff.machine = .registered ∧ home.aff.ctx = none ∧
    home.aff.signingOff = false ∧ home.homeGap = false ∧ home.aff.tx = none ∧
    (asking .statusReport reportFrame home).hears = true ∧
    (asking .statusReport reportFrame home).aff.tx.isSome = true ∧
    back.hears = true ∧ back.sched.gap = some (gapAt .tuneHome .complete) ∧ back.aff.machine = .registered ∧
    listens.hears = true ∧ listens.aff.machine = .registered ∧
    idle.hears = true ∧ idle.aff.machine ≠ .registered ∧
    ({ home with aff.signingOff := true } : Part).hears = true ∧
    ending.settledOutside = true ∧ ending.tuning.op = some (opOn 340 .ret .scheduler .settling 1) ∧
    ending.sched.gap = some (gapAt .tuneHome .complete) ∧ ending.servingChannel = some 340 ∧
    ending.aff.ctx = none ∧ ending.aff.deregisterDue = true ∧ ending.aff.tx = none ∧ ending.sched.work = none ∧
    answered.settledOutside = true ∧ answered.aff.tx = some ⟨.rollAnswer, .rollAnswer 5 100 (some 3), 0, 255⟩ ∧
    answered.aff.txTimer.isSome = true ∧ answered.aff.registerDue = false ∧ answered.aff.deregisterDue = true ∧
    answered.homeGap = false ∧ (after .txWaitExpiry answered).aff.tx.map TxReq.kind = some .deregister :=
  ⟨midGap _ _ (by decide +kernel), by decide +kernel⟩

theorem witness_RollCallAnswered :
    TakesFrame (at0 home) 1 (AirFrame.rollCall 5).bytes (.rollCall 5) ∧ home.aff.serving = some 5 ∧
    home.aff.machine = .registered ∧ home.tuning.position = .home ∧ home.aff.slot = some 3 ∧ home.aff.tx = none ∧
    home.aff.sense = some .present ∧ home.aff.request = false ∧
    TakesFrame (at0 { home with aff.slot := none }) 1 (AirFrame.rollCall 5).bytes (.rollCall 5) ∧
    TakesFrame (at0 { home with aff.request := true }) 1 (AirFrame.rollCall 5).bytes (.rollCall 5) ∧
    TakesFrame (at0 (asking .statusReport reportFrame home)) 1 (AirFrame.rollCall 5).bytes (.rollCall 5) :=
  ⟨takes _ _ _ (by decide +kernel), by decide +kernel, by decide +kernel, by decide +kernel, by decide +kernel,
    by decide +kernel, by decide +kernel, by decide +kernel, takes _ _ _ (by decide +kernel),
    takes _ _ _ (by decide +kernel), takes _ _ _ (by decide +kernel)⟩

theorem witness_StatusQueryAnswered :
    TakesFrame (at0 home) 1 (AirFrame.statusQuery 5 100).bytes (.statusQuery 5 100) ∧
    home.aff.identity.map Identity.unit = some 100 ∧ home.aff.serving = some 5 ∧ home.aff.machine = .registered ∧
    home.tuning.position = .home ∧ home.aff.tx = none ∧
    TakesFrame (at0 (asking .statusReport reportFrame home)) 1 (AirFrame.statusQuery 5 100).bytes
      (.statusQuery 5 100) ∧
    (after (.airIn (1 :: (AirFrame.statusQuery 5 100).bytes)) home).aff.tx.map TxReq.frame =
      some (.statusReport 5 100 ⟨false, false, false, false⟩ (some 130) 1) :=
  ⟨takes _ _ _ (by decide +kernel), by decide +kernel, by decide +kernel, by decide +kernel, by decide +kernel,
    by decide +kernel, takes _ _ _ (by decide +kernel), by decide +kernel⟩

theorem witness_DirectAndReleaseTaken_taken :
    let direct (target channel : Nat) : AirFrame := .direct 5 .group 7 target channel
    let free := home
    let full : Part := { home with table := (home.table.take 3) ++ fullTable.table.drop 3 }
    let held : Part := { home with engine.watch0 := some ⟨9, .holdOnSelect, none⟩ }
    TakesFrame (at0 free) 1 (direct 9 341).bytes (direct 9 341) ∧
    TakesFrame (at0 free) 1 (direct 5 340).bytes (direct 5 340) ∧
    TakesFrame (at0 free) 1 (direct 33 610).bytes (direct 33 610) ∧
    TakesFrame (at0 full) 1 (direct 33 610).bytes (direct 33 610) ∧
    TakesFrame (at0 held) 1 (direct 9 341).bytes (direct 9 341) ∧
    free.aff.identity.map Identity.group = some 7 ∧ free.aff.serving = some 5 ∧ free.aff.machine = .registered ∧
    free.tuning.position = .home ∧ free.aff.ctx = none ∧ free.aff.signingOff = false ∧ free.params.mode = .auto ∧
    free.tableSound = true ∧ free.record 33 = none ∧ free.lowestEmpty = some 3 ∧
    full.tableSound = true ∧ full.record 33 = none ∧ full.lowestEmpty = none ∧
    (full.victim []).map Prod.fst = some 1 ∧
    free.record 9 = some record9 ∧ free.servingChannel = some 340 ∧ record9.channel ≠ 340 ∧
    record9.confirm.isSome = true ∧ record9.blocked = false ∧ record9.level = some ⟨155, 2400⟩ ∧
    free.params.acceptMin ≤ 2400 / 16 ∧ free.engine.holdingSlot 9 = none ∧ free.homeGap = false ∧
    free.tuning.holder = none ∧ free.sched.burst = none ∧ free.engine.state = .running ∧
    held.engine.holdingSlot 9 = some 0 ∧ held.engine.state = .running ∧
    (after (.airIn (1 :: (direct 9 341).bytes)) free).aff.machine = .hoTune ∧
    (after (.airIn (1 :: (direct 33 610).bytes)) free).link.notices.map Queued.notice =
      [.siteLearned 33 610 3 .direct, .directRefused 33 .unconfirmed] ∧
    (after (.airIn (1 :: (direct 9 341).bytes)) held).engine.state = .frozen (.watch 0) :=
  ⟨takes _ _ _ (by decide +kernel), takes _ _ _ (by decide +kernel), takes _ _ _ (by decide +kernel),
    takes _ _ _ (by decide +kernel), takes _ _ _ (by decide +kernel), by decide +kernel⟩

theorem witness_DirectAndReleaseTaken :
    let others := home.table.set 3 (some (SiteRecord.fresh 33 610 .pinned 0))
    let barred := home.table.set 1 (some { record9 with bar := some ⟨.failed, 1⟩ })
    let weak := home.table.set 1 (some { record9 with level := some ⟨49, 799⟩ })
    let pinned := (home.table.take 3) ++ pinnedTable.table.drop 3
    TakesFrame (at0 home) 1 (AirFrame.direct 5 .unit 100 33 610).bytes (.direct 5 .unit 100 33 610) ∧
    TakesFrame (at0 home) 1 (AirFrame.release 5 100 0).bytes (.release 5 100 0) ∧
    home.aff.identity.map Identity.unit = some 100 ∧ home.aff.serving = some 5 ∧ home.aff.machine = .registered ∧
    home.tuning.position = .home ∧ home.params.mode = .auto ∧ home.aff.ctx.isSome = false ∧
    ({ home with aff.signingOff := true } : Part).settledOutside = true ∧
    ({ home with params.mode := .fixed } : Part).settledOutside = true ∧
    ({ home with table := pinned } : Part).record 33 = none ∧ ({ home with table := pinned } : Part).lowestEmpty = none ∧
    (({ home with
        table := (home.table.take 1) ++ (pinnedTable.table.drop 1) } : Part).victim [] = none) ∧
    home.coChannel record12 = true ∧
    (({ home with table := others } : Part).record 33 = some (SiteRecord.fresh 33 610 .pinned 0)) ∧
    (({ home with table := barred } : Part).record 9).map SiteRecord.blocked = some true ∧
    (({ home with table := weak } : Part).record 9).map SiteRecord.level = some (some ⟨49, 799⟩) ∧
    799 / 16 < home.params.acceptMin ∧
    ({ home with engine := Engine.atReset none none } : Part).settledOutside = true ∧
    (Engine.atReset none none).state ≠ .running ∧ (Engine.atReset none none).stepFlag = false ∧
    home.params.failBar ≠ 0 :=
  ⟨takes _ _ _ (by decide +kernel), takes _ _ _ (by decide +kernel), by decide +kernel⟩

theorem witness_RequestSetsAndCancels :
    let alarm : Part := { home with lines.emerg.debounced := some true }
    home.hears = true ∧ home.hears = true ∧ home.active .emerg = false ∧
    alarm.hears = true ∧ alarm.active .emerg = true ∧
    home.hears = true ∧ 2 ≤ (2 : Byte).toNat := by decide +kernel

theorem witness_EdgesStartTheDebounce :
    let analog : Part := { idle with lines.battMode := .analog, lines.batt.timer := none }
    let atOnce : Part := { idle with params.debounceMs := 0 }
    idle.settledOutside = true ∧ (idle.lines.get .call).raw = false ∧ (idle.lines.get .ptt).raw ≠ true ∧
    analog.settledOutside = true ∧ (analog.lines.get .batt).raw ≠ true ∧ analog.lines.battMode = .analog ∧
    idle.lines.battMode = .digital ∧
    (({ idle with lines.ptt.debounced := some true } : Part).lines.get .ptt).debounced = some true ∧
    (idle.lines.get .ptt).debounced ≠ some true ∧ idle.params.debounceMs ≠ 0 ∧
    atOnce.settledOutside = true ∧ atOnce.params.debounceMs = 0 ∧ (atOnce.lines.get .ptt).timer.isSome = true ∧
    (({ atOnce with lines.emerg.timer := none } : Part).lines.get .emerg).timer = none ∧
    (after (.inputEdge .emerg true) { atOnce with lines.emerg.timer := none }).aff.request = true := by decide +kernel

theorem witness_DebounceExpiryTakesTheLevel :
    let later (report : Bool) : Part :=
      { idle with
        lines.emerg.raw := true, lines.emerg.debounced := some false, lines.emerg.reference := some false
        lines.emerg.report := report }
    idle.settledOutside = true ∧ idle.lines.emerg.timer.isSome = true ∧ idle.lines.emerg.debounced = none ∧
    (later false).settledOutside = true ∧ (later false).lines.emerg.timer.isSome = true ∧
    (later false).lines.emerg.debounced = some (!(later false).lines.emerg.raw) ∧
    (later false).lines.emerg.report = false ∧
    (later true).settledOutside = true ∧ (later true).lines.emerg.report = true ∧
    (later true).lines.emerg.reference ≠ some (later true).lines.emerg.raw ∧ (later true).lines.ptt.mark = false ∧
    (later true).lines.call.mark = false ∧ (later true).lines.emerg.mark = false ∧
    (later true).lines.batt.mark = false := by decide +kernel

/-- An input with its debounce timer running towards a level that its polarity names as active. -/
def active (x : InputLine) : InputLine := { x with raw := true, debounced := some false, timer := some 5 }

theorem witness_DebounceExpiryTakesTheLevel_gaps :
    let listens := pressing (gapping (gapAt .listen .complete))
    let calling : Part :=
      { gapping (gapAt .listen .complete) with lines.call := active home.lines.call }
    let burst : Part := pressing (bursting 2 .converting)
    let hunt : Part := pressing (hunting (gapAt .listen .complete))
    let back : Part := pressing (gapping (gapAt .tuneHome .complete))
    let first : Part := { home with lines.ptt.raw := true, lines.batt.raw := true }
    let low : Part := { home with lines.batt := active home.lines.batt }
    listens.MidGap (gapAt .listen .complete) 340 ∧ calling.MidGap (gapAt .listen .complete) 340 ∧
    listens.settledOutside = true ∧ (listens.lines.get .ptt).timer.isSome = true ∧ listens.sched.burst = none ∧
    listens.aff.ctx = none ∧ listens.lines.ptt.debounced = some (!listens.lines.ptt.raw) ∧
    listens.lines.ptt.report = false ∧
    calling.settledOutside = true ∧ (calling.lines.get .call).timer.isSome = true ∧
    (idle.lines.get .call).timer.isSome = true ∧ idle.lines.call.debounced = none ∧ idle.sched.gap = none ∧
    first.settledOutside = true ∧ (first.lines.get .ptt).debounced = none ∧ first.sched.gap = none ∧
    burst.settledOutside = true ∧ burst.sched.burst = some ⟨5, ⟨4, 1, 2, 400, .converting⟩, true⟩ ∧
    burst.sched.gap = none ∧ burst.conv.state = .rssi ∧ burst.conv.waiting = none ∧ burst.engine.stepFlag = false ∧
    hunt.settledOutside = true ∧ hunt.sched.gap = some { gapAt .listen .complete with kind := .hunt } ∧
    hunt.aff.ctx = none ∧ hunt.conv.state ≠ .rssi ∧ hunt.tuning.holder = some .scheduler ∧ hunt.tuning.op = none ∧
    hunt.engine.stepFlag = false ∧ hunt.sched.work = none ∧
    back.settledOutside = true ∧ back.sched.gap = some (gapAt .tuneHome .complete) ∧
    first.lines.batt.timer.isSome = true ∧ first.lines.batt.debounced = none ∧ first.lines.battery = .normal ∧
    low.settledOutside = true ∧ low.lines.batt.debounced = some (!low.lines.batt.raw) ∧
    low.lines.batt.report = false ∧ (after (.debounceExpiry .batt) low).lines.battery = .low ∧
    (after (.debounceExpiry .ptt) hunt).sched.gap = none :=
  ⟨midGap _ _ (by decide +kernel), midGap _ _ (by decide +kernel), by decide +kernel⟩

theorem witness_LinesSetReplacesTheConfiguration :
    home.hears = true ∧ (3 : Byte).toNat < 4 ∧ (1 : Byte).toNat < 2 ∧
    home.hears = true ∧ 4 ≤ (4 : Byte).toNat ∧
    home.hears = true ∧ home.hears = true ∧
    home.hears = true ∧
    home.hears = true ∧ 2 ≤ (2 : Byte).toNat := by decide +kernel

theorem witness_LinesReadTakesReferences :
    idle.hears = true ∧ home.hears = true := by decide +kernel

theorem witness_BatteryIsConvertedAndJudged :
    let timed : Part := { idle with lines.battMode := .analog, lines.battTimer := some 1000 }
    let judged (c : BattCondition) : Part := { idle with conv.state := .battery true, lines.battery := c }
    timed.settledOutside = true ∧ timed.lines.battTimer.isSome = true ∧ timed.conv.state = .idle ∧
    ({ timed with conv.state := .rssi } : Part).settledOutside = true ∧ timed.conv.waiting = none ∧
    (judged .normal).settledOutside = true ∧ (judged .normal).conv.state = .battery true ∧
    (judged .normal).conv.waiting = none ∧ (judged .normal).params.battLow ≤ (120 : Byte).toNat ∧
    (119 : Byte).toNat < (judged .normal).params.battLow ∧
    (judged .low).settledOutside = true ∧
    (125 : Byte).toNat < (judged .low).params.battLow + (judged .low).params.battHyst ∧
    (judged .low).params.battLow + (judged .low).params.battHyst ≤ (126 : Byte).toNat ∧
    ({ idle with conv.state := .battery false } : Part).settledOutside = true := by decide +kernel

/-- A part that stands as a step leaves it, and a step that answers a next state. -/
theorem witness_StepsKeepTheParts :
    home.settledOutside = true ∧ home.tableSound = true ∧ home.receiverSound = true ∧ home.queueSound = true ∧
    (after .roundExpiry home).settledOutside = true ∧ (after .roundExpiry home).tableSound = true :=
  by decide +kernel

theorem witness_StepAnswersNext : step ⟨home, [.roundExpiry]⟩ = .next (at0 (after .roundExpiry home)) := rfl

theorem witness_HostSettingsChangeOnlyByTheirCommands :
    Instr.roundExpiry ≠ .powerOn ∧ Instr.roundExpiry ≠ .resetLine ∧ Instr.roundExpiry ≠ .recordSent ∧
    (∀ b, Instr.roundExpiry ≠ .lrxByte b) ∧
    exec .roundExpiry (at0 home) = .next (at0 (after .roundExpiry home)) ∧ home.link.resetDue = none ∧
    exec .recordSent (at0 home) = .next (at0 (after .recordSent home)) ∧
    exec (.lrxByte 0x7E) (at0 idle) = .next (at0 (after (.lrxByte 0x7E) idle)) :=
  ⟨by decide, by decide, by decide, (fun _ h => by cases h), rfl, rfl, rfl, rfl⟩

end Sys2Proof.Tests
end

section
/-! SUPPORT. The operations that leave the site table and the affiliation controller alone: the notices, the
converter, the tuning unit, the supervision unit and the scheduler's searches and starts. One lemma each. -/

namespace Sys2Proof.Machine

/-- What the operations below the affiliation controller leave alone: the site table, the affiliation controller, the
engine's candidate, counters and marks, the battery condition and the two pointers. -/
abbrev Part.Stays (p q : Part) : Prop :=
  q.table = p.table ∧ q.aff = p.aff ∧ q.engine.cand = p.engine.cand ∧ q.engine.holdoff = p.engine.holdoff ∧
  q.engine.releaseOwed = p.engine.releaseOwed ∧ q.engine.stepFlag = p.engine.stepFlag ∧
  q.lines.battery = p.lines.battery ∧ q.sched.visitPtr = p.sched.visitPtr ∧ q.sched.huntPtr = p.sched.huntPtr

/-! ### The engine's notices and the outputs -/

@[simp] theorem Part.engineNotice_blocks (cause : EngineCause) (slot : Option Nat) (p : Part) :
    (p.engineNotice cause slot).table = p.table ∧ (p.engineNotice cause slot).tuning = p.tuning ∧
      (p.engineNotice cause slot).sched = p.sched ∧ (p.engineNotice cause slot).engine = p.engine ∧
      (p.engineNotice cause slot).sup = p.sup ∧ (p.engineNotice cause slot).aff = p.aff ∧
      (p.engineNotice cause slot).lines = p.lines ∧ (p.engineNotice cause slot).conv = p.conv := by
  simp [Part.engineNotice]

@[simp] theorem Part.startRunning_stays (cause : EngineCause) (p : Part) : p.Stays (p.startRunning cause) := by
  simp [Part.startRunning, Part.Stays]

@[simp] theorem Part.engineReady_stays (p : Part) : p.Stays p.engineReady := by
  unfold Part.engineReady; split <;> simp [Part.Stays]

@[simp] theorem Part.unsettle_stays (site : Nat) (p : Part) : p.Stays (p.unsettle site) := by
  simp [Part.unsettle, Part.Stays]

/-- Leaving a slot touches the measurements in flight alone (R12). -/
@[simp] theorem Part.unsettle_blocks (site : Nat) (p : Part) :
    (p.unsettle site).tuning = p.tuning ∧ (p.unsettle site).engine = p.engine ∧ (p.unsettle site).sup = p.sup ∧
      (p.unsettle site).lines = p.lines ∧ (p.unsettle site).conv = p.conv ∧ (p.unsettle site).link = p.link ∧
      (p.unsettle site).sched.work = p.sched.work ∧ (p.unsettle site).freeCount = p.freeCount :=
  ⟨rfl, rfl, rfl, rfl, rfl, rfl, rfl, rfl⟩

/-! ### The converter -/

@[simp] theorem Part.mapRun_stays (f : SampleRun → SampleRun) (p : Part) : p.Stays (p.mapRun f) := by
  unfold Part.mapRun; split <;> simp [Part.Stays]

@[simp] theorem Part.takeRssi_stays (p : Part) : p.Stays p.takeRssi := by
  simp [Part.takeRssi, Part.Stays]

@[simp] theorem Part.waitConverter_stays (user : ConvUser) (p : Part) : p.Stays (p.waitConverter user) := by
  unfold Part.waitConverter; (repeat' split) <;> simp [Part.Stays]

@[simp] theorem Part.askRssi_stays (p : Part) : p.Stays p.askRssi := by
  unfold Part.askRssi; split <;> simp [Part.Stays]

@[simp] theorem Part.askBattery_stays (p : Part) : p.Stays p.askBattery := by
  unfold Part.askBattery; split <;> simp [Part.Stays, Part.takeBattery]

@[simp] theorem Part.releaseConverter_stays (p : Part) : p.Stays p.releaseConverter := by
  unfold Part.releaseConverter; split <;> simp [Part.Stays, Part.takeBattery]

@[simp] theorem Part.stopRun_stays (p : Part) : p.Stays p.stopRun := by
  unfold Part.stopRun; dsimp only; (repeat' split) <;> simp [Part.Stays]

@[simp] theorem Part.passFirstGap_stays (p : Part) : p.Stays p.passFirstGap := by
  unfold Part.passFirstGap; (repeat' split) <;> simp [Part.Stays]

@[simp] theorem Part.skipGaps_stays (p : Part) : p.Stays p.skipGaps := by simp [Part.skipGaps, Part.Stays]

@[simp] theorem Part.discardBurst_stays (p : Part) : p.Stays p.discardBurst := by
  unfold Part.discardBurst; split <;> simp [Part.Stays]

/-! ### The tuning unit -/

@[simp] theorem Part.recomputePosition_stays (p : Part) : p.Stays p.recomputePosition := by
  unfold Part.recomputePosition; dsimp only; split <;> simp [Part.Stays]

@[simp] theorem Part.startOp_stays (owner : Owner) (req : TuneReq) (p : Part) : p.Stays (p.startOp owner req) := by
  simp [Part.startOp, Part.Stays]

@[simp] theorem Part.putWaiting_stays (owner : Owner) (req : TuneReq) (p : Part) :
    p.Stays (p.putWaiting owner req) := by
  unfold Part.putWaiting; split <;> simp [Part.Stays]

@[simp] theorem Part.requestTune_stays (owner : Owner) (req : TuneReq) (p : Part) :
    p.Stays (p.requestTune owner req) := by
  unfold Part.requestTune; (repeat' split) <;> simp [Part.Stays]

@[simp] theorem Part.requestReturn_stays (owner : Owner) (p : Part) : p.Stays (p.requestReturn owner) := by
  unfold Part.requestReturn; split <;> simp [Part.Stays]

@[simp] theorem Part.serveClients_stays (p : Part) : p.Stays p.serveClients := by
  unfold Part.serveClients; split <;> simp [Part.Stays]

@[simp] theorem Part.makeRetry_stays (p : Part) : p.Stays p.makeRetry := by
  unfold Part.makeRetry; split <;> simp [Part.Stays]

@[simp] theorem Part.freeReceiver_stays (p : Part) : p.Stays p.freeReceiver := by
  unfold Part.freeReceiver; dsimp only; (repeat' split) <;> simp [Part.Stays]

@[simp] theorem Part.clearWaiting_stays (owner : Owner) (p : Part) : p.Stays (p.clearWaiting owner) := by
  unfold Part.clearWaiting; split <;> simp [Part.Stays]

@[simp] theorem Part.releaseReceiver_stays (owner : Owner) (p : Part) : p.Stays (p.releaseReceiver owner) := by
  unfold Part.releaseReceiver; dsimp only; (repeat' split) <;> simp [Part.Stays]

@[simp] theorem Part.askRetry_stays (p : Part) : p.Stays p.askRetry := by
  unfold Part.askRetry; (repeat' split) <;> simp [Part.Stays]

@[simp] theorem Part.latch_stays (op : TuneOp) (p : Part) : p.Stays (p.latch op) := by
  unfold Part.latch; dsimp only; split <;> simp [Part.Stays]

@[simp] theorem Part.secondAttempt_stays (op : TuneOp) (p : Part) : p.Stays (p.secondAttempt op) := by
  simp [Part.secondAttempt, Part.Stays]

@[simp] theorem Part.endReady_stays (op : TuneOp) (p : Part) : p.Stays (p.endReady op) := by
  simp [Part.endReady, Part.Stays]

@[simp] theorem Part.endFailed_stays (p : Part) : p.Stays p.endFailed := by simp [Part.endFailed, Part.Stays]

@[simp] theorem Part.markFault_stays (p : Part) : p.Stays p.markFault := by simp [Part.markFault, Part.Stays]

/-! ### The supervision unit -/

@[simp] theorem Part.startInterval_stays (p : Part) : p.Stays p.startInterval := by
  simp [Part.startInterval, Part.freshMarks, Part.Stays]

@[simp] theorem Part.supBeacon_stays (site cls : Nat) (p : Part) : p.Stays (p.supBeacon site cls) := by
  unfold Part.supBeacon; dsimp only; (repeat' split) <;> simp [Part.Stays]

@[simp] theorem Part.suspend_stays (p : Part) : p.Stays p.suspend := by simp [Part.suspend, Part.Stays]

@[simp] theorem Part.resume_stays (p : Part) : p.Stays p.resume := by
  unfold Part.resume; dsimp only; split <;> simp [Part.freshMarks, Part.Stays]

@[simp] theorem Part.supRestart_stays (cls : Option Nat) (p : Part) : p.Stays (p.supRestart cls) := by
  simp [Part.supRestart, Part.Stays]

@[simp] theorem Part.notePtt_stays (p : Part) : p.Stays p.notePtt := by
  unfold Part.notePtt; split <;> simp [Part.Stays]

@[simp] theorem Part.noteGap_stays (p : Part) : p.Stays p.noteGap := by
  unfold Part.noteGap; split <;> simp [Part.Stays]

@[simp] theorem Part.countCoarse_stays (site : Nat) (p : Part) : p.Stays (p.countCoarse site) := by
  unfold Part.countCoarse; dsimp only; split <;> simp [Part.Stays]

@[simp] theorem Part.countInterval_stays (site : Nat) (p : Part) : p.Stays (p.countInterval site) := by
  unfold Part.countInterval; dsimp only; (repeat' split) <;> simp [Part.Stays]

@[simp] theorem Part.judgeInterval_stays (site : Nat) (p : Part) : p.Stays (p.judgeInterval site) := by
  unfold Part.judgeInterval; (repeat' split) <;> simp [Part.Stays]

/-! ### The scheduler -/

@[simp] theorem Part.startHomeGap_stays (w : RoundWork) (x : Nat × SiteRecord) (fromPending : Bool) (p : Part) :
    p.Stays (p.startHomeGap w x fromPending) := by
  simp [Part.startHomeGap, Part.Stays]

@[simp] theorem Part.considerHomeGap_stays (p : Part) : p.Stays p.considerHomeGap := by
  unfold Part.considerHomeGap; dsimp only; (repeat' split) <;> simp [Part.Stays]

@[simp] theorem Part.considerHunt_stays (p : Part) : p.Stays p.considerHunt := by
  unfold Part.considerHunt; dsimp only; (repeat' split) <;> simp [Part.Stays]

@[simp] theorem Part.gapTuneHome_stays (g : Gap) (p : Part) : p.Stays (p.gapTuneHome g) := by
  simp [Part.gapTuneHome, Part.Stays]

@[simp] theorem Part.abortHomeGap_stays (p : Part) : p.Stays p.abortHomeGap := by
  unfold Part.abortHomeGap; (repeat' split) <;> simp [Part.Stays]

@[simp] theorem Part.abortHuntGap_stays (p : Part) : p.Stays p.abortHuntGap := by
  unfold Part.abortHuntGap; (repeat' split) <;> simp [Part.Stays]

@[simp] theorem Part.endHomeGapNow_stays (p : Part) : p.Stays p.endHomeGapNow := by
  unfold Part.endHomeGapNow; split <;> simp [Part.Stays]

@[simp] theorem Part.schedPtt_stays (p : Part) : p.Stays p.schedPtt := by simp [Part.schedPtt, Part.Stays]

@[simp] theorem Part.schedCall_stays (p : Part) : p.Stays p.schedCall := by simp [Part.schedCall, Part.Stays]

@[simp] theorem Part.startBurst_stays (site : Nat) (p : Part) : p.Stays (p.startBurst site) := by
  simp [Part.startBurst, Part.Stays]

@[simp] theorem Part.requestWork_stays (p : Part) : p.Stays p.requestWork := by
  unfold Part.requestWork; dsimp only; (repeat' split) <;> simp [Part.Stays]

/-! ### The watches: what a freeze and an answer leave alone -/

/-- What the watches' answers leave alone: every block but the engine's state and rounds, the round's work and the
link. -/
abbrev Part.Unwatched (p q : Part) : Prop :=
  q.table = p.table ∧ q.tuning = p.tuning ∧ q.sup = p.sup ∧ q.aff = p.aff ∧ q.lines = p.lines ∧ q.conv = p.conv ∧
  q.sched.burst = p.sched.burst ∧ q.sched.gap = p.sched.gap ∧ q.sched.visitPtr = p.sched.visitPtr ∧
  q.sched.huntPtr = p.sched.huntPtr ∧ q.sched.conserve = p.sched.conserve ∧ q.engine.cand = p.engine.cand ∧
  q.engine.holdoff = p.engine.holdoff ∧ q.engine.releaseOwed = p.engine.releaseOwed

@[simp] theorem Part.endRound_unwatched (p : Part) : p.Unwatched p.endRound := by simp [Part.endRound, Part.Unwatched]

@[simp] theorem Part.freezeWatch_unwatched (slot : Nat) (p : Part) : p.Unwatched (p.freezeWatch slot) := by
  unfold Part.freezeWatch; (repeat' split) <;> simp [Part.Unwatched]

@[simp] theorem Part.freezeTune_unwatched (p : Part) : p.Unwatched p.freezeTune := by
  simp [Part.freezeTune, Part.Unwatched]

@[simp] theorem Part.offerSlot_unwatched (slot : Nat) (watch : Option Watch) (site : Nat) (source : WriteSource)
    (p : Part) : p.Unwatched (p.offerSlot slot watch site source) := by
  unfold Part.offerSlot; dsimp only; (repeat' split) <;> simp [Part.Unwatched]

@[simp] theorem Part.offerWrite_unwatched (site : Nat) (source : WriteSource) (p : Part) :
    p.Unwatched (p.offerWrite site source) := by
  simp [Part.offerWrite, Part.Unwatched]

@[simp] theorem Part.selectCheck_unwatched (site : Nat) (cause : Cause) (p : Part) :
    p.Unwatched (p.selectCheck site cause).2 := by
  unfold Part.selectCheck; (repeat' split) <;> simp [Part.Unwatched]

theorem Part.selectCheck_unwatched_of {site : Nat} {cause : Cause} {b : Bool} {p q : Part}
    (h : p.selectCheck site cause = (b, q)) : p.Unwatched q := by
  have hk := Part.selectCheck_unwatched site cause p
  rwa [h] at hk

/-! ### The end of a step -/

@[simp] theorem Part.endStepRound_unwatched (p : Part) : p.Unwatched p.endStepRound := by
  unfold Part.endStepRound; split <;> simp [Part.Unwatched]

/-- What the transmitter leaves alone: every block but the link (R185). -/
@[simp] theorem Part.startSending_blocks (p : Part) :
    p.startSending.params = p.params ∧ p.startSending.table = p.table ∧ p.startSending.tuning = p.tuning ∧
      p.startSending.sched = p.sched ∧ p.startSending.engine = p.engine ∧ p.startSending.sup = p.sup ∧
      p.startSending.aff = p.aff ∧ p.startSending.lines = p.lines ∧ p.startSending.conv = p.conv := by
  unfold Part.startSending; (repeat' split) <;> simp

/-- What the end of a step leaves alone, but for the outputs. -/
@[simp] theorem Part.finish_blocks (p : Part) :
    p.finish.params = p.params ∧ p.finish.table = p.table ∧ p.finish.tuning = p.tuning ∧ p.finish.sup = p.sup ∧
      p.finish.aff = p.aff ∧ p.finish.conv = p.conv ∧ p.finish.sched = p.sched ∧
      p.finish.engine.cand = p.engine.cand ∧ p.finish.engine.holdoff = p.engine.holdoff ∧
      p.finish.engine.releaseOwed = p.engine.releaseOwed ∧ p.finish.engine.watch0 = p.engine.watch0 ∧
      p.finish.engine.watch1 = p.engine.watch1 := by
  have hs : p.endStepRound.sched = p.sched := by unfold Part.endStepRound; split <;> simp
  simp [Part.finish, hs]

/-- Outputs that stand as they should stay so at the end of a step. -/
theorem Part.finish_lines {p : Part} (h : p.outputsDriven = true) : p.finish.lines = p.lines := by
  have hd : p.endStepRound.startSending.outputsDriven = true := by
    simpa [Part.outputsDriven] using h
  rw [Part.finish, Part.driveOutputs_of_driven hd]
  simp

/-- What the end of an interpretation leaves alone, and the reply it places (R182). -/
@[simp] theorem Part.placeReply_blocks (r : Reply) (p : Part) :
    (p.placeReply r).params = p.params ∧ (p.placeReply r).table = p.table ∧ (p.placeReply r).tuning = p.tuning ∧
      (p.placeReply r).sup = p.sup ∧ (p.placeReply r).aff = p.aff ∧ (p.placeReply r).conv = p.conv ∧
      (p.placeReply r).sched = p.sched ∧ (p.placeReply r).engine.cand = p.engine.cand ∧
      (p.placeReply r).engine.holdoff = p.engine.holdoff ∧
      (p.placeReply r).engine.releaseOwed = p.engine.releaseOwed ∧
      (p.placeReply r).engine.watch0 = p.engine.watch0 ∧ (p.placeReply r).engine.watch1 = p.engine.watch1 := by
  simp [Part.placeReply]

theorem Part.placeReply_lines {p : Part} (r : Reply) (h : p.outputsDriven = true) : (p.placeReply r).lines = p.lines :=
  Part.finish_lines (by exact h)

@[simp] theorem Part.startSending_reply (p : Part) : p.startSending.link.reply = p.link.reply := by
  unfold Part.startSending; (repeat' split) <;> simp

@[simp] theorem Part.placeReply_reply (r : Reply) (p : Part) : (p.placeReply r).link.reply = some r := by
  simp [Part.placeReply, Part.finish]

end Sys2Proof.Machine
end

section
/-! SUPPORT. What the operations of the affiliation controller, the engine and the scheduler's course make of the site
table: each record keeps its slot, its site ID and its channel. -/

namespace Sys2Proof.Machine

/-- What a record is found by: its site ID and its channel. -/
def SiteRecord.place (r : SiteRecord) : Nat × Nat := (r.site, r.channel)

/-- Every slot of the two tables holds the same site ID on the same channel, or is empty in both. -/
abbrev Part.SamePlaces (p q : Part) : Prop :=
  q.table.map (Option.map SiteRecord.place) = p.table.map (Option.map SiteRecord.place)

/-! ### Changes of records in their slots -/

@[simp] theorem Part.mapRecords_blocks (f : SiteRecord → SiteRecord) (p : Part) :
    (p.mapRecords f).tuning = p.tuning ∧ (p.mapRecords f).sched = p.sched ∧ (p.mapRecords f).engine = p.engine ∧
      (p.mapRecords f).sup = p.sup ∧ (p.mapRecords f).aff = p.aff ∧ (p.mapRecords f).lines = p.lines ∧
      (p.mapRecords f).conv = p.conv ∧ (p.mapRecords f).link = p.link ∧ (p.mapRecords f).freeCount = p.freeCount :=
  ⟨rfl, rfl, rfl, rfl, rfl, rfl, rfl, rfl, rfl⟩

@[simp] theorem Part.updateRec_blocks (site : Nat) (f : SiteRecord → SiteRecord) (p : Part) :
    (p.updateRec site f).tuning = p.tuning ∧ (p.updateRec site f).sched = p.sched ∧
      (p.updateRec site f).engine = p.engine ∧ (p.updateRec site f).sup = p.sup ∧
      (p.updateRec site f).aff = p.aff ∧ (p.updateRec site f).lines = p.lines ∧
      (p.updateRec site f).conv = p.conv ∧ (p.updateRec site f).link = p.link ∧
      (p.updateRec site f).freeCount = p.freeCount :=
  p.mapRecords_blocks _

theorem Part.mapRecords_places {f : SiteRecord → SiteRecord} (hf : ∀ r, (f r).place = r.place) (p : Part) :
    p.SamePlaces (p.mapRecords f) := by
  simp only [Part.mapRecords, Part.SamePlaces, List.map_map, Function.comp_def, Option.map_map, hf]

@[simp] theorem Part.updateRec_places {f : SiteRecord → SiteRecord} (hf : ∀ r, (f r).place = r.place) (site : Nat)
    (p : Part) : p.SamePlaces (p.updateRec site f) :=
  Part.mapRecords_places (fun r => by split <;> simp [hf]) p

@[simp] theorem Part.unconfirmOthers_places (channel site : Nat) (p : Part) :
    p.SamePlaces (p.unconfirmOthers channel site) :=
  Part.mapRecords_places (fun r => by split <;> rfl) p

@[simp] theorem Part.confirmFromBeacon_places (r : SiteRecord) (load : Nat) (p : Part) :
    p.SamePlaces (p.confirmFromBeacon r load) := by
  have hl (q : Part) := Part.updateRec_places (f := fun r => { r with load := some load }) (fun _ => rfl) r.site q
  have hc (q : Part) := Part.updateRec_places (f := fun r => { r with confirm := some 0 }) (fun _ => rfl) r.site q
  unfold Part.confirmFromBeacon
  dsimp only
  split <;> simp only [Part.SamePlaces, Part.offerWrite_unwatched, hl, hc, Part.unconfirmOthers_places]

@[simp] theorem Part.credit_places (site mean : Nat) (p : Part) : p.SamePlaces (p.credit site mean) := by
  have h := Part.updateRec_places (f := SiteRecord.credit p.params mean) (fun _ => rfl) site p
  simpa [Part.SamePlaces, Part.credit] using h

@[simp] theorem Part.countTable_places (p : Part) : p.SamePlaces p.countTable :=
  Part.mapRecords_places
    (f := fun r => r.roundCount p.params.confirmLife (p.aff.serving == some r.site || p.target == some r.site))
    (fun _ => rfl) p

@[simp] theorem Part.countRound_places (p : Part) : p.SamePlaces p.countRound := p.countTable_places

@[simp] theorem SiteRecord.setBar_place (kind : BarKind) (rounds : Nat) (r : SiteRecord) :
    (r.setBar kind rounds).place = r.place := by
  unfold SiteRecord.setBar; split <;> rfl

@[simp] theorem SiteRecord.failVisit_place (failBar : Nat) (noBeacon : Bool) (r : SiteRecord) :
    (r.failVisit failBar noBeacon).place = r.place := by
  have h (q : SiteRecord) : ({ q.setBar .failed failBar with failures := 0 } : SiteRecord).place = q.place :=
    q.setBar_place .failed failBar
  unfold SiteRecord.failVisit
  dsimp only
  cases noBeacon <;> (simp only [reduceIte, Bool.false_eq_true]; split) <;> first | rfl | exact h _

@[simp] theorem SiteRecord.failTarget_place (reason : FailReason) (failBar retry : Nat) (r : SiteRecord) :
    (r.failTarget reason failBar retry).place = r.place := by
  have h (q : SiteRecord) : ({ q with confirm := none } : SiteRecord).place = q.place := rfl
  cases reason <;> simp only [SiteRecord.failTarget, h, SiteRecord.setBar_place]

@[simp] theorem SiteRecord.leaveServing_place (cause : Cause) (ps : Params) (r : SiteRecord) :
    (r.leaveServing cause ps).place = r.place := by
  unfold SiteRecord.leaveServing; (repeat' split) <;> simp only [SiteRecord.setBar_place]

@[simp] theorem Part.visitFailed_places (g : Gap) (noBeacon : Bool) (p : Part) :
    p.SamePlaces (p.visitFailed g noBeacon) := by
  unfold Part.visitFailed
  split <;> simp [Part.SamePlaces]

/-! ### The affiliation controller -/

@[simp] theorem Part.issueTx_table (kind : TxKind) (frame : AirFrame) (delay : Nat) (p : Part) :
    (p.issueTx kind frame delay).table = p.table := by simp [Part.issueTx]

@[simp] theorem Part.issueRegister_table (ctx : Context) (p : Part) : (p.issueRegister ctx).table = p.table := by
  simp [Part.issueRegister]

@[simp] theorem Part.enterSend_table (ctx : Context) (p : Part) : (p.enterSend ctx).table = p.table := by
  unfold Part.enterSend; dsimp only; split <;> simp

@[simp] theorem Part.issueDeregister_table (p : Part) : p.issueDeregister.table = p.table := by
  simp [Part.issueDeregister]

@[simp] theorem Part.goTune_table (ctx : Context) (p : Part) : (p.goTune ctx).table = p.table := by
  unfold Part.goTune; dsimp only; split <;> simp

@[simp] theorem Part.beginHandover_table (target : Nat) (cause : Cause) (ofRound : Bool) (p : Part) :
    (p.beginHandover target cause ofRound).table = p.table := by
  unfold Part.beginHandover; dsimp only; (repeat' split) <;> simp

@[simp] theorem Part.gapEndedReport_table (p : Part) : p.gapEndedReport.table = p.table := by
  unfold Part.gapEndedReport; (repeat' split) <;> simp

@[simp] theorem Part.makeOrdinary_places (old : Option Nat) (p : Part) : p.SamePlaces (p.makeOrdinary old) := by
  unfold Part.makeOrdinary; split <;> simp [Part.SamePlaces]

@[simp] theorem Part.goNone_places (cause : NoServiceCause) (p : Part) : p.SamePlaces (p.goNone cause) := by
  simp [Part.SamePlaces, Part.goNone]

/-! ### The engine -/

@[simp] theorem Part.selectForLoss_places (p : Part) : p.SamePlaces p.selectForLoss := by
  unfold Part.selectForLoss
  split
  · dsimp only; split <;> simp [Part.SamePlaces]
  · split <;> (rename_i h; simp [Part.SamePlaces, Part.selectCheck_unwatched_of h])

@[simp] theorem Part.raiseLoss_places (p : Part) : p.SamePlaces p.raiseLoss := by
  unfold Part.raiseLoss; split <;> simp [Part.SamePlaces]

@[simp] theorem Part.reportLost_places (p : Part) : p.SamePlaces p.reportLost := by
  unfold Part.reportLost; split <;> simp [Part.SamePlaces]

@[simp] theorem Part.endEvent_places (ctx : Context) (p : Part) : p.SamePlaces (p.endEvent ctx) := by
  simp [Part.SamePlaces, Part.endEvent]

@[simp] theorem Part.selectAgain_places (ctx : Context) (p : Part) : p.SamePlaces (p.selectAgain ctx) := by
  unfold Part.selectAgain
  dsimp only
  split
  · split
    · simp [Part.SamePlaces]
    · split <;> (rename_i h; simp [Part.SamePlaces, Part.selectCheck_unwatched_of h])
  · simp [Part.SamePlaces]

@[simp] theorem Part.handOff_table (site : Nat) (cause : Cause) (p : Part) : (p.handOff site cause).table = p.table := by
  unfold Part.handOff
  split <;> (rename_i h; simp [Part.selectCheck_unwatched_of h])

@[simp] theorem Part.judge_table (serving : SiteRecord) (l : Level) (p : Part) : (p.judge serving l).table = p.table := by
  unfold Part.judge; dsimp only; (repeat' split) <;> simp

@[simp] theorem Part.evaluate_places (p : Part) : p.SamePlaces p.evaluate := by
  unfold Part.evaluate; (repeat' split) <;> simp [Part.SamePlaces]

@[simp] theorem Part.round_places (p : Part) : p.SamePlaces p.round := by
  unfold Part.round; dsimp only; split <;> simp [Part.SamePlaces]

/-! ### The ends of handovers and requests -/

@[simp] theorem Part.failHandover_places (ctx : Context) (reason : FailReason) (refuse : Option RefuseReason)
    (retry : Nat) (p : Part) : p.SamePlaces (p.failHandover ctx reason refuse retry) := by
  unfold Part.failHandover; dsimp only; split <;> simp [Part.SamePlaces]

@[simp] theorem Part.leaveOld_places (old : Option Nat) (cause : Cause) (p : Part) :
    p.SamePlaces (p.leaveOld old cause) := by
  unfold Part.leaveOld
  split <;> simp [Part.SamePlaces]

@[simp] theorem Part.succeedHandover_places (ctx : Context) (slot : Option Nat) (sense : Sense) (p : Part) :
    p.SamePlaces (p.succeedHandover ctx slot sense) := by
  simp [Part.SamePlaces, Part.succeedHandover]

@[simp] theorem Part.endReturn_table (p : Part) : p.endReturn.table = p.table := by simp [Part.endReturn]

@[simp] theorem Part.affPtt_places (p : Part) : p.SamePlaces p.affPtt := by
  unfold Part.affPtt; (repeat' split) <;> simp [Part.SamePlaces]

@[simp] theorem Part.issueWaiting_table (p : Part) : p.issueWaiting.table = p.table := by
  unfold Part.issueWaiting; (repeat' split) <;> simp

@[simp] theorem Part.registerEnded_places (outcome : TxOutcome) (p : Part) : p.SamePlaces (p.registerEnded outcome) := by
  unfold Part.registerEnded; (repeat' split) <;> simp [Part.SamePlaces]

@[simp] theorem Part.reportEnded_table (frame : AirFrame) (outcome : TxOutcome) (p : Part) :
    (p.reportEnded frame outcome).table = p.table := by
  unfold Part.reportEnded; split <;> simp

@[simp] theorem Part.endTx_places (tx : TxReq) (outcome : TxOutcome) (p : Part) : p.SamePlaces (p.endTx tx outcome) := by
  unfold Part.endTx; dsimp only; split <;> simp [Part.SamePlaces]

@[simp] theorem Part.rollCall_table (site : Nat) (p : Part) : (p.rollCall site).table = p.table := by
  unfold Part.rollCall; (repeat' split) <;> simp

@[simp] theorem Part.statusQuery_table (site : Nat) (p : Part) : (p.statusQuery site).table = p.table := by
  unfold Part.statusQuery; split <;> simp

@[simp] theorem Part.refuseDirect_table (target : Nat) (reason : DirectReason) (p : Part) :
    (p.refuseDirect target reason).table = p.table := by simp [Part.refuseDirect]

@[simp] theorem Part.release_places (site retry : Nat) (p : Part) : p.SamePlaces (p.release site retry) := by
  simp [Part.SamePlaces, Part.release]

/-! ### The course of a measurement -/

@[simp] theorem Part.offerAcquire_table (site : Nat) (inStep : Bool) (p : Part) :
    (p.offerAcquire site inStep).table = p.table := by
  unfold Part.offerAcquire
  split
  · split
    · split <;> (rename_i h; simp [Part.selectCheck_unwatched_of h])
    · rfl
  · rfl

@[simp] theorem Part.movePointer_table (g : Gap) (p : Part) : (p.movePointer g).table = p.table := by
  unfold Part.movePointer; dsimp only; (repeat' split) <;> rfl

@[simp] theorem Part.endHomeGap_table (p : Part) : p.endHomeGap.table = p.table := by simp [Part.endHomeGap]

@[simp] theorem Part.endHuntGap_table (g : Gap) (offer : Option Nat) (p : Part) :
    (p.endHuntGap g offer).table = p.table := by
  unfold Part.endHuntGap; dsimp only; split <;> simp

@[simp] theorem Part.creditGap_places (g : Gap) (p : Part) : p.SamePlaces (p.creditGap g) := by
  unfold Part.creditGap; dsimp only; (repeat' split) <;> simp [Part.SamePlaces]

@[simp] theorem Part.failGap_places (g : Gap) (noBeacon : Bool) (p : Part) : p.SamePlaces (p.failGap g noBeacon) := by
  unfold Part.failGap; dsimp only; split <;> simp [Part.SamePlaces]

@[simp] theorem Part.gapSampled_places (g : Gap) (p : Part) : p.SamePlaces (p.gapSampled g) := by
  unfold Part.gapSampled; split <;> simp [Part.SamePlaces]

@[simp] theorem Part.endBurst_places (b : Burst) (p : Part) : p.SamePlaces (p.endBurst b) := by
  unfold Part.endBurst; dsimp only; split <;> simp [Part.SamePlaces]

@[simp] theorem Part.runComplete_places (p : Part) : p.SamePlaces p.runComplete := by
  unfold Part.runComplete; (repeat' split) <;> simp [Part.SamePlaces]

@[simp] theorem Part.takeSample_places (code : Byte) (p : Part) : p.SamePlaces (p.takeSample code) := by
  unfold Part.takeSample; dsimp only; (repeat' split) <;> simp [Part.SamePlaces]

@[simp] theorem Part.noteBeacon_places (g : Gap) (site : Nat) (p : Part) : p.SamePlaces (p.noteBeacon g site) := by
  unfold Part.noteBeacon; dsimp only; (repeat' split) <;> simp [Part.SamePlaces]

@[simp] theorem Part.schedReady_table (p : Part) : p.schedReady.table = p.table := by
  unfold Part.schedReady; (repeat' split) <;> simp

@[simp] theorem Part.schedFailed_places (p : Part) : p.SamePlaces p.schedFailed := by
  unfold Part.schedFailed; (repeat' split) <;> simp [Part.SamePlaces]

/-! ### The tune's outcomes -/

@[simp] theorem Part.affReady_table (p : Part) : p.affReady.table = p.table := by
  unfold Part.affReady; split <;> simp

@[simp] theorem Part.affFailed_places (p : Part) : p.SamePlaces p.affFailed := by
  unfold Part.affFailed; split <;> simp [Part.SamePlaces]

@[simp] theorem Part.handReady_table (owner : Owner) (p : Part) : (p.handReady owner).table = p.table := by
  unfold Part.handReady; split <;> simp

@[simp] theorem Part.handFailed_places (owner : Owner) (p : Part) : p.SamePlaces (p.handFailed owner) := by
  unfold Part.handFailed; split <;> simp [Part.SamePlaces]

@[simp] theorem Part.lockTaken_table (op : TuneOp) (p : Part) : (p.lockTaken op).table = p.table := by
  unfold Part.lockTaken; split <;> simp [Part.opReady]

@[simp] theorem Part.lockFailed_places (op : TuneOp) (p : Part) : p.SamePlaces (p.lockFailed op) := by
  unfold Part.lockFailed; (repeat' split) <;> simp [Part.SamePlaces]

/-! ### The line monitor and the other events -/

@[simp] theorem Part.setBattery_table (condition : BattCondition) (code : Option Byte) (p : Part) :
    (p.setBattery condition code).table = p.table := by
  unfold Part.setBattery; split <;> simp

@[simp] theorem Part.judgeDigital_table (p : Part) : p.judgeDigital.table = p.table := by simp [Part.judgeDigital]

@[simp] theorem Part.judgeCode_table (code : Byte) (p : Part) : (p.judgeCode code).table = p.table := by
  unfold Part.judgeCode; split <;> simp

@[simp] theorem Part.becameActive_places (i : Input) (p : Part) : p.SamePlaces (p.becameActive i) := by
  unfold Part.becameActive; split <;> simp [Part.SamePlaces]

@[simp] theorem Part.becameInactive_table (i : Input) (p : Part) : (p.becameInactive i).table = p.table := by
  unfold Part.becameInactive; split <;> simp

@[simp] theorem Part.activeChange_places (i : Input) (was : Bool) (p : Part) : p.SamePlaces (p.activeChange i was) := by
  unfold Part.activeChange; split <;> simp [Part.SamePlaces]

@[simp] theorem Part.judgeMark_table (i : Input) (p : Part) : (p.judgeMark i).table = p.table := by
  unfold Part.judgeMark; dsimp only; (repeat' split) <;> simp

@[simp] theorem Part.takeLevel_places (i : Input) (p : Part) : p.SamePlaces (p.takeLevel i) := by
  unfold Part.takeLevel; dsimp only; (repeat' split) <;> simp [Part.SamePlaces]

@[simp] theorem Part.startDebounce_places (i : Input) (p : Part) : p.SamePlaces (p.startDebounce i) := by
  unfold Part.startDebounce; (repeat' split) <;> simp [Part.SamePlaces]

@[simp] theorem Part.edge_places (i : Input) (level : Bool) (p : Part) : p.SamePlaces (p.edge i level) := by
  unfold Part.edge; dsimp only; (repeat' split) <;> simp [Part.SamePlaces]

@[simp] theorem Part.configureLines_places (ptt call emerg batt : InputConfig) (mode : BattMode) (p : Part) :
    p.SamePlaces (p.configureLines ptt call emerg batt mode) := by
  unfold Part.configureLines; dsimp only; (repeat' split) <;> simp [Part.SamePlaces, Part.toAnalog, Part.toDigital]

@[simp] theorem Part.intervalExpiry_places (p : Part) : p.SamePlaces p.intervalExpiry := by
  unfold Part.intervalExpiry; dsimp only; split <;> simp [Part.SamePlaces]

@[simp] theorem Part.listenExpiry_places (g : Gap) (p : Part) : p.SamePlaces (p.listenExpiry g) := by
  unfold Part.listenExpiry; split <;> simp [Part.SamePlaces]

@[simp] theorem Part.beaconWaitExpiry_places (p : Part) : p.SamePlaces p.beaconWaitExpiry := by
  unfold Part.beaconWaitExpiry; split <;> simp [Part.SamePlaces]

@[simp] theorem Part.grantWaitExpiry_places (p : Part) : p.SamePlaces p.grantWaitExpiry := by
  unfold Part.grantWaitExpiry; (repeat' split) <;> simp [Part.SamePlaces]

@[simp] theorem Part.batteryDone_table (judged : Bool) (code : Byte) (p : Part) :
    (p.batteryDone judged code).table = p.table := by
  unfold Part.batteryDone; split <;> simp

end Sys2Proof.Machine
end

section
/-! SUPPORT. The sound site table (R1): what its soundness says slot by slot, what keeps it, and what a removal, a
creation and a learned addition make of it. -/

namespace Sys2Proof.Machine

/-! ### Tables with the same places -/

theorem Part.SamePlaces.slotAt {p q : Part} (h : p.SamePlaces q) (i : Nat) :
    (q.slotAt i).map SiteRecord.place = (p.slotAt i).map SiteRecord.place := by
  have hi := congrArg (fun l => l[i]?) h
  simp only [List.getElem?_map] at hi
  unfold Part.slotAt
  cases hq : q.table[i]? <;> cases hp : p.table[i]? <;> simp_all

theorem occupiedFrom_places {l m : List (Option SiteRecord)}
    (h : l.map (Option.map SiteRecord.place) = m.map (Option.map SiteRecord.place)) (k : Nat) :
    (occupiedFrom k l).map (fun x => (x.1, x.2.place)) = (occupiedFrom k m).map (fun x => (x.1, x.2.place)) := by
  induction l generalizing m k with
  | nil => cases m <;> simp_all [occupiedFrom]
  | cons o l ih =>
    cases m with
    | nil => simp at h
    | cons o' m =>
      simp only [List.map_cons, List.cons.injEq] at h
      obtain ⟨ho, hl⟩ := h
      have ih' := ih hl (k + 1)
      cases o <;> cases o' <;> simp_all [occupiedFrom]

theorem Part.SamePlaces.tableSound {p q : Part} (h : p.SamePlaces q) : q.tableSound = p.tableSound := by
  have hl := congrArg List.length h
  have hs := congrArg (List.map (fun x => x.2.1)) (occupiedFrom_places h 0)
  simp only [List.length_map, List.map_map] at hl hs
  have hs' : q.siteIds = p.siteIds := hs
  simp only [Part.tableSound, hl, hs']

/-- A record is found in the same slot, on the same channel. -/
theorem Part.SamePlaces.find {p q : Part} (h : p.SamePlaces q) (site : Nat) :
    (q.find site).map (fun x => (x.1, x.2.place)) = (p.find site).map (fun x => (x.1, x.2.place)) := by
  have hs := congrArg (List.find? (fun x => x.2.1 == site)) (occupiedFrom_places h 0)
  rw [List.find?_map, List.find?_map] at hs
  exact hs

theorem Part.SamePlaces.channel {p q : Part} (h : p.SamePlaces q) (site : Nat) :
    (q.record site).map SiteRecord.channel = (p.record site).map SiteRecord.channel := by
  have hf := congrArg (Option.map (fun x => x.2.2)) (h.find site)
  simp only [Option.map_map] at hf
  simp only [Part.record, Option.map_map]
  exact hf

theorem Part.SamePlaces.servingChannel {p q : Part} (h : p.SamePlaces q) (hs : q.aff.serving = p.aff.serving) :
    q.servingChannel = p.servingChannel := by
  unfold Part.servingChannel
  rw [hs]
  cases p.aff.serving with
  | none => rfl
  | some s => exact h.channel s

/-! ### Soundness, slot by slot -/

theorem Part.tableSound_iff {p : Part} :
    p.tableSound = true ↔ p.table.length = 24 ∧
      ∀ i j r q, p.slotAt i = some r → p.slotAt j = some q → r.site = q.site → i = j := by
  constructor
  · intro h
    refine ⟨?_, fun i j r q hi hj he => (Part.slot_unique h hi hj he).1⟩
    simp only [Part.tableSound, Bool.and_eq_true, beq_iff_eq] at h
    exact h.1
  · rintro ⟨hl, hu⟩
    have hn : p.occupied.Nodup := (occupiedFrom_pairwise p.table 0).imp (fun h e => by rw [e] at h; omega)
    have hi : ∀ x ∈ p.occupied, ∀ y ∈ p.occupied, x.2.site = y.2.site → x = y := by
      rintro ⟨i, r⟩ hx ⟨j, q⟩ hy he
      rw [p.mem_occupied] at hx hy
      obtain rfl := hu i j r q hx hy he
      simp_all
    simp only [Part.tableSound, Part.siteIds, hl, beq_self_eq_true, Bool.true_and]
    exact decide_eq_true ((List.nodup_map_iff_inj_on hn).2 hi)

/-- A table whose every record stood in the same slot is sound. -/
theorem Part.tableSound_of_slots {p q : Part} (hs : p.tableSound = true) (hl : q.table.length = p.table.length)
    (h : ∀ i r, q.slotAt i = some r → ∃ r', p.slotAt i = some r' ∧ r'.site = r.site) : q.tableSound = true := by
  rw [Part.tableSound_iff] at hs ⊢
  refine ⟨hl.trans hs.1, fun i j r r' hi hj he => ?_⟩
  obtain ⟨a, ha, hra⟩ := h i r hi
  obtain ⟨b, hb, hrb⟩ := h j r' hj
  exact hs.2 i j a b ha hb (by rw [hra, hrb, he])

theorem Part.slotAt_of_set {p q : Part} {i : Nat} {o : Option SiteRecord} (h : q.table = p.table.set i o)
    (hi : i < p.table.length) (j : Nat) : q.slotAt j = if i = j then o else p.slotAt j := by
  unfold Part.slotAt
  rw [h, List.getElem?_set]
  by_cases hj : i = j
  · subst hj; simp [hi]
  · simp [hj]

theorem Part.slotAt_lt {p : Part} {i : Nat} {r : SiteRecord} (h : p.slotAt i = some r) : i < p.table.length := by
  unfold Part.slotAt at h
  by_contra hl
  rw [List.getElem?_eq_none (by omega)] at h
  simp at h

/-- A record of a site ID the table does not hold may be placed in any slot. -/
theorem Part.tableSound_of_placed {p q : Part} {i : Nat} {r : SiteRecord} (hs : p.tableSound = true)
    (hi : i < p.table.length) (h : q.table = p.table.set i (some r)) (hr : p.record r.site = none) :
    q.tableSound = true := by
  have hn := Part.find_none.1 (Part.record_none.1 hr)
  rw [Part.tableSound_iff] at hs ⊢
  refine ⟨by simp [h, hs.1], fun j k a b hj hk he => ?_⟩
  rw [Part.slotAt_of_set h hi] at hj hk
  split at hj <;> split at hk
  · omega
  · cases hj; exact absurd he.symm (hn k b hk)
  · cases hk; exact absurd he (hn j a hj)
  · exact hs.2 j k a b hj hk he

/-! ### Removal, room and placing -/

theorem Part.slotAt_removeRec (site : Nat) (p : Part) (i : Nat) :
    (p.removeRec site).slotAt i = (p.slotAt i).bind (fun r => if r.site = site then none else some r) := by
  simp only [Part.removeRec, Part.slotAt, Part.unsettle_stays, List.getElem?_map, beq_iff_eq]
  cases p.table[i]? <;> simp

/-- Two tables of one length that agree slot by slot are equal. -/
theorem Part.table_ext {p q : Part} (hl : q.table.length = p.table.length) (h : ∀ i, q.slotAt i = p.slotAt i) :
    q.table = p.table := by
  apply List.ext_getElem?
  intro i
  have hi := h i
  unfold Part.slotAt at hi
  by_cases hlt : i < p.table.length
  · rw [List.getElem?_eq_getElem hlt, List.getElem?_eq_getElem (hl ▸ hlt)] at hi ⊢
    simpa using hi
  · rw [List.getElem?_eq_none (by omega), List.getElem?_eq_none (by omega)]

/-- In a sound table, the removal of a record empties its slot and no other. -/
theorem Part.removeRec_table {p : Part} (hs : p.tableSound = true) {i : Nat} {r : SiteRecord}
    (h : p.slotAt i = some r) : (p.removeRec r.site).table = p.table.set i none := by
  refine Part.table_ext (p := { p with table := p.table.set i none }) (by simp [Part.removeRec]) (fun j => ?_)
  rw [Part.slotAt_removeRec, Part.slotAt_of_set (p := p) (q := { p with table := p.table.set i none }) rfl
    (Part.slotAt_lt h)]
  split
  · rename_i hj; subst hj; simp [h]
  · rename_i hj
    cases hq : p.slotAt j with
    | none => rfl
    | some q =>
      have hne : q.site ≠ r.site := fun e => hj (Part.slot_unique hs h hq e.symm).1
      simp [hne]

theorem Part.lowestEmpty_some {p : Part} {i : Nat} (h : p.lowestEmpty = some i) :
    i < p.table.length ∧ p.table.set i none = p.table := by
  obtain ⟨hi, he, -⟩ := List.findIdx?_eq_some_iff_getElem.1 h
  refine ⟨hi, ?_⟩
  rw [Option.isNone_iff_eq_none] at he
  rw [← he, List.set_getElem_self]

theorem Part.victim_slot {p : Part} {keep : List Nat} {i : Nat} {v : SiteRecord} (h : p.victim keep = some (i, v)) :
    p.slotAt i = some v :=
  ((p.pickMax_occupied SiteRecord.advAge (p.evictable keep)).2 i v h).1

/-- The room made in a sound table is one slot, empty now; every other slot is as before (R2, R24). -/
theorem Part.makeRoom_table {p q : Part} {keep : List Nat} {i : Nat} (hs : p.tableSound = true)
    (h : p.makeRoom keep = some (i, q)) : i < p.table.length ∧ q.table = p.table.set i none := by
  unfold Part.makeRoom at h
  split at h
  · rename_i j hj
    cases h
    exact ⟨(Part.lowestEmpty_some hj).1, (Part.lowestEmpty_some hj).2.symm⟩
  · split at h
    · rename_i j v hv
      cases h
      have hslot := Part.victim_slot hv
      exact ⟨Part.slotAt_lt hslot, by simpa using Part.removeRec_table hs hslot⟩
    · cases h

@[simp] theorem Part.place_table (i : Nat) (r : SiteRecord) (p : Part) : (p.place i r).table = p.table.set i (some r) :=
  rfl

/-- A learned addition fills one slot with a fresh LEARNED record (R3, R23). -/
theorem Part.learn_table {p q : Part} {site channel : Nat} {source : LearnSource} {keep : List Nat}
    (hs : p.tableSound = true) (h : p.learn site channel source keep = some q) :
    ∃ i, i < p.table.length ∧ q.table = p.table.set i (some (SiteRecord.fresh site channel .learned 0)) := by
  unfold Part.learn at h
  split at h
  · rename_i i r hr
    cases h
    obtain ⟨hi, ht⟩ := Part.makeRoom_table hs hr
    exact ⟨i, hi, by simp [ht]⟩
  · cases h

theorem Part.learn_sound {p q : Part} {site channel : Nat} {source : LearnSource} {keep : List Nat}
    (hs : p.tableSound = true) (hr : p.record site = none) (h : p.learn site channel source keep = some q) :
    q.tableSound = true := by
  obtain ⟨i, hi, ht⟩ := Part.learn_table hs h
  exact Part.tableSound_of_placed hs hi ht hr

theorem Part.removeRec_sound {p : Part} (hs : p.tableSound = true) (site : Nat) :
    (p.removeRec site).tableSound = true := by
  refine Part.tableSound_of_slots hs (by simp) (fun i r h => ?_)
  rw [Part.slotAt_removeRec] at h
  cases hi : p.slotAt i with
  | none => simp [hi] at h
  | some q =>
    simp only [hi, Option.bind_some] at h
    split at h
    · cases h
    · cases h; exact ⟨r, rfl, rfl⟩

/-- Changes of records that keep their site IDs keep the table sound. -/
theorem Part.updateRec_sound {p : Part} (hs : p.tableSound = true) (site : Nat) {f : SiteRecord → SiteRecord}
    (hf : ∀ r, (f r).site = r.site) : (p.updateRec site f).tableSound = true := by
  refine Part.tableSound_of_slots hs (by simp) (fun i r h => ?_)
  rw [Part.slotAt_updateRec, Option.map_eq_some_iff] at h
  obtain ⟨q, hq, rfl⟩ := h
  exact ⟨q, hq, by split <;> simp [hf]⟩

theorem Part.tableSound_of_table {p q : Part} (h : q.table = p.table) : q.tableSound = p.tableSound :=
  Part.SamePlaces.tableSound (by simp [Part.SamePlaces, h])

theorem Part.rechannel_sound {p : Part} (hs : p.tableSound = true) (site channel : Nat) :
    (p.rechannel site channel).tableSound = true := by
  have h := Part.updateRec_sound hs site (f := SiteRecord.rechannel channel) (fun _ => rfl)
  rwa [Part.rechannel, Part.tableSound_of_table (Part.unsettle_stays site _).1]

end Sys2Proof.Machine
end

section
/-! SUPPORT. The table stays sound through every command: the learned additions, the beacons, the host commands on the
table, the resets, and from these each interpretation and each event. -/

namespace Sys2Proof.Machine

/-! ### Learned additions and beacons -/

theorem Part.learnEntry_sound (entry : Nat × Nat) (keep : List Nat) {p : Part} (hs : p.tableSound = true) :
    (Part.learnEntry entry (keep, p)).2.tableSound = true := by
  obtain ⟨site, channel⟩ := entry
  unfold Part.learnEntry
  dsimp only
  split
  · exact hs
  · split
    case h_1 hr =>
      split
      · rename_i h; exact Part.learn_sound hs hr h
      · exact hs
    case h_2 r hr =>
      refine Part.updateRec_sound ?_ site (fun _ => rfl)
      split
      · exact Part.rechannel_sound hs site channel
      · exact hs

theorem Part.learnFold_sound (entries : List (Nat × Nat)) (x : List Nat × Part) (hs : x.2.tableSound = true) :
    (entries.foldl (fun x e => Part.learnEntry e x) x).2.tableSound = true := by
  induction entries generalizing x with
  | nil => exact hs
  | cons e es ih => exact ih _ (Part.learnEntry_sound e x.1 hs)

theorem Part.learnNeighbours_sound (entries : List (Nat × Nat)) {p : Part} (hs : p.tableSound = true) :
    (p.learnNeighbours entries).tableSound = true :=
  Part.learnFold_sound entries ([], p) hs

/-- What keeps every record in its slot keeps the table sound. -/
theorem Part.SamePlaces.sound {p q : Part} (h : p.SamePlaces q) (hs : p.tableSound = true) : q.tableSound = true :=
  h.tableSound.trans hs

theorem Part.beaconWrites_sound (b : Beacon) {p : Part} (hs : p.tableSound = true) :
    (p.beaconWrites b).tableSound = true := by
  unfold Part.beaconWrites
  split
  · split
    · exact (Part.confirmFromBeacon_places _ _ _).sound hs
    · exact hs
  · rename_i hr
    split
    · split
      · exact hs
      · split
        · rename_i h
          exact (Part.confirmFromBeacon_places _ _ _).sound (Part.learn_sound hs hr h)
        · exact hs
    · exact hs

@[simp] theorem Part.targetBeacon_places (ctx : Context) (b : Beacon) (p : Part) :
    p.SamePlaces (p.targetBeacon ctx b) := by
  unfold Part.targetBeacon; split <;> simp [Part.SamePlaces]

theorem Part.handOnBeacon_sound (b : Beacon) {p : Part} (hs : p.tableSound = true) :
    (p.handOnBeacon b).tableSound = true := by
  unfold Part.handOnBeacon
  split
  · split
    · refine Part.learnNeighbours_sound _ ?_
      exact Part.SamePlaces.sound (by simp [Part.SamePlaces]) hs
    · exact hs
  · split
    · exact (Part.noteBeacon_places _ _ _).sound hs
    · split
      · exact (Part.targetBeacon_places _ _ _).sound hs
      · exact hs
    · exact hs

theorem Part.direct_sound (target channel : Nat) {p : Part} (hs : p.tableSound = true) :
    (p.direct target channel).tableSound = true := by
  have refuse (q : Part) (reason : DirectReason) (hq : q.tableSound = true) :
      (q.refuseDirect target reason).tableSound = true :=
    (Part.tableSound_of_table (Part.refuseDirect_table target reason q)).trans hq
  unfold Part.direct
  split
  · exact refuse p _ hs
  split
  · exact refuse p _ hs
  split
  · exact hs
  split
  · rename_i hr
    split
    · rename_i h; exact refuse _ _ (Part.learn_sound hs hr h)
    · exact refuse p _ hs
  · split
    · exact refuse p _ hs
    split
    · exact refuse p _ hs
    split
    · exact refuse p _ hs
    split <;>
      (rename_i h; refine Part.SamePlaces.sound ?_ hs; simp [Part.SamePlaces, Part.selectCheck_unwatched_of h])

theorem Part.takeFrame_sound (frame : AirFrame) {p : Part} (hs : p.tableSound = true) :
    (p.takeFrame frame).tableSound = true := by
  cases frame with
  | beacon b =>
    simp only [Part.takeFrame, Part.takeBeacon]
    split
    · exact Part.handOnBeacon_sound b (Part.beaconWrites_sound b hs)
    · exact hs
  | direct site kind address target channel =>
    simp only [Part.takeFrame]
    split
    · exact Part.direct_sound target channel hs
    · exact hs
  | grant | refuse | release | rollCall | statusQuery =>
    refine Part.SamePlaces.sound ?_ hs
    simp only [Part.takeFrame]
    split <;> simp [Part.SamePlaces]
  | register | rollAnswer | statusReport | deregister => exact hs

/-! ### The host commands -/

/-- A command whose answer keeps the table sound. -/
def AnswerSound (f : List Byte → Part → Answer) : Prop :=
  ∀ args p, p.tableSound = true → (f args p).part.tableSound = true

/-- An answer that keeps every record in its slot. -/
theorem answerSound_of_places {f : List Byte → Part → Answer}
    (h : ∀ args (p : Part), p.SamePlaces (f args p).part) : AnswerSound f :=
  fun args p hs => (h args p).sound hs

theorem Part.offerWrite_sound (site : Nat) (source : WriteSource) {p : Part} (hs : p.tableSound = true) :
    (p.offerWrite site source).tableSound = true :=
  Part.SamePlaces.sound (by simp [Part.SamePlaces]) hs

theorem Part.putExisting_sound (r : SiteRecord) (channel : Nat) (bias : Int) {p : Part} (hs : p.tableSound = true) :
    (p.putExisting r channel bias).tableSound = true := by
  have hu : (p.updateRec r.site (fun r => { r with origin := .pinned, bias := bias })).tableSound = true :=
    Part.updateRec_sound hs _ (fun _ => rfl)
  refine Part.offerWrite_sound _ _ ?_
  split
  · exact hu
  · exact Part.rechannel_sound hu _ _

theorem answerSitePut_sound : AnswerSound answerSitePut := by
  intro args p hs
  unfold answerSitePut
  split
  · unfold Part.sitePut
    dsimp only
    split
    · exact hs
    split
    · split
      · exact hs
      split
      · exact hs
      · exact Part.putExisting_sound _ _ _ hs
    · rename_i hr
      split
      · exact hs
      · rename_i i q hq
        obtain ⟨hi, ht⟩ := Part.makeRoom_table hs hq
        have hp (r : SiteRecord) : (q.place i r).table = p.table.set i (some r) := by simp [ht]
        exact Part.offerWrite_sound _ _ (Part.tableSound_of_placed hs hi (hp (.fresh _ _ .pinned _)) hr)
  · exact hs

theorem answerSiteDrop_sound : AnswerSound answerSiteDrop := by
  intro args p hs
  unfold answerSiteDrop
  split
  · unfold Part.siteDrop
    split
    · exact hs
    split
    · exact hs
    split
    · exact hs
    split
    · exact hs
    · exact Part.removeRec_sound (by exact hs) _
  · exact hs

theorem answerAirIn_sound : AnswerSound answerAirIn := by
  intro args p hs
  unfold answerAirIn
  (repeat' split) <;> first | exact hs | exact Part.takeFrame_sound _ hs

@[simp] theorem Part.storeParam_table (q : Param) (v : Int) (p : Part) : (p.storeParam q v).table = p.table := by
  unfold Part.storeParam; dsimp only; split <;> rfl

@[simp] theorem Part.setWatch_table (slot : Nat) (watch : Option Watch) (p : Part) :
    (p.setWatch slot watch).part.table = p.table := by
  unfold Part.setWatch; split <;> rfl

@[simp] theorem Part.siteGet_part (p : Part) (found : Option (Nat × SiteRecord)) : (p.siteGet found).part = p := by
  unfold Part.siteGet; split <;> rfl

@[simp] theorem Part.ok_part (p : Part) (data : List Byte) : (p.ok data).part = p := rfl

@[simp] theorem Part.refuse_part (p : Part) (code : ReplyCode) : (p.refuse code).part = p := rfl

theorem answerInfo_places (args : List Byte) (p : Part) : p.SamePlaces (answerInfo args p).part := by
  unfold answerInfo; split <;> rfl

theorem answerParamSet_places (args : List Byte) (p : Part) : p.SamePlaces (answerParamSet args p).part := by
  unfold answerParamSet; dsimp only; (repeat' split) <;> simp [Part.SamePlaces]

theorem answerParamGet_places (args : List Byte) (p : Part) : p.SamePlaces (answerParamGet args p).part := by
  unfold answerParamGet; (repeat' split) <;> rfl

theorem answerIdentity_places (args : List Byte) (p : Part) : p.SamePlaces (answerIdentity args p).part := by
  unfold answerIdentity; (repeat' split) <;> rfl

theorem answerSiteGet_places (args : List Byte) (p : Part) : p.SamePlaces (answerSiteGet args p).part := by
  unfold answerSiteGet; dsimp only; (repeat' split) <;> simp [Part.SamePlaces]

theorem answerSiteList_places (args : List Byte) (p : Part) : p.SamePlaces (answerSiteList args p).part := by
  unfold answerSiteList; split <;> rfl

theorem answerRun_places (args : List Byte) (p : Part) : p.SamePlaces (answerRun args p).part := by
  unfold answerRun Part.runEngine; (repeat' split) <;> simp [Part.SamePlaces]

theorem answerHalt_places (args : List Byte) (p : Part) : p.SamePlaces (answerHalt args p).part := by
  unfold answerHalt Part.haltEngine; (repeat' split) <;> simp [Part.SamePlaces]

theorem answerStep_places (args : List Byte) (p : Part) : p.SamePlaces (answerStep args p).part := by
  unfold answerStep Part.stepEngine; (repeat' split) <;> simp [Part.SamePlaces, Part.beginStep]

theorem answerContinue_places (args : List Byte) (p : Part) : p.SamePlaces (answerContinue args p).part := by
  unfold answerContinue Part.continueEngine Part.continueFrom; (repeat' split) <;> simp [Part.SamePlaces]

theorem answerWatchSet_places (args : List Byte) (p : Part) : p.SamePlaces (answerWatchSet args p).part := by
  unfold answerWatchSet; (repeat' split) <;> simp [Part.SamePlaces]

theorem answerWatchClear_places (args : List Byte) (p : Part) : p.SamePlaces (answerWatchClear args p).part := by
  unfold answerWatchClear; (repeat' split) <;> simp [Part.SamePlaces]

theorem answerMove_places (args : List Byte) (p : Part) : p.SamePlaces (answerMove args p).part := by
  unfold answerMove Part.moveTo; (repeat' split) <;> simp [Part.SamePlaces]

theorem answerAirSent_places (args : List Byte) (p : Part) : p.SamePlaces (answerAirSent args p).part := by
  unfold answerAirSent Part.airSent; (repeat' split) <;> simp [Part.SamePlaces]

theorem answerLinesSet_places (args : List Byte) (p : Part) : p.SamePlaces (answerLinesSet args p).part := by
  unfold answerLinesSet; (repeat' split) <;> simp [Part.SamePlaces]

theorem answerLinesRead_places (args : List Byte) (p : Part) : p.SamePlaces (answerLinesRead args p).part := by
  unfold answerLinesRead; split <;> rfl

theorem answerRequest_places (args : List Byte) (p : Part) : p.SamePlaces (answerRequest args p).part := by
  unfold answerRequest; (repeat' split) <;> simp [Part.SamePlaces]

theorem answerSignOff_places (args : List Byte) (p : Part) : p.SamePlaces (answerSignOff args p).part := by
  unfold answerSignOff Part.beginSignOff; dsimp only; (repeat' split) <;> simp [Part.SamePlaces]

theorem answerStatus_places (args : List Byte) (p : Part) : p.SamePlaces (answerStatus args p).part := by
  unfold answerStatus; split <;> rfl

theorem answerNotices_places (args : List Byte) (p : Part) : p.SamePlaces (answerNotices args p).part := by
  unfold answerNotices; (repeat' split) <;> rfl

theorem answerReset_places (args : List Byte) (p : Part) : p.SamePlaces (answerReset args p).part := by
  unfold answerReset; (repeat' split) <;> rfl

/-- Every command kind's answer keeps the table sound. -/
theorem answerOfKind_sound {kind : Byte} {f : List Byte → Part → Answer} (h : answerOfKind kind = some f) :
    AnswerSound f := by
  unfold answerOfKind at h
  split at h <;> cases h
  · exact answerSound_of_places answerInfo_places
  · exact answerSound_of_places answerParamSet_places
  · exact answerSound_of_places answerParamGet_places
  · exact answerSound_of_places answerIdentity_places
  · exact answerSitePut_sound
  · exact answerSiteDrop_sound
  · exact answerSound_of_places answerSiteGet_places
  · exact answerSound_of_places answerSiteList_places
  · exact answerSound_of_places answerRun_places
  · exact answerSound_of_places answerHalt_places
  · exact answerSound_of_places answerStep_places
  · exact answerSound_of_places answerContinue_places
  · exact answerSound_of_places answerWatchSet_places
  · exact answerSound_of_places answerWatchClear_places
  · exact answerSound_of_places answerMove_places
  · exact answerAirIn_sound
  · exact answerSound_of_places answerAirSent_places
  · exact answerSound_of_places answerLinesSet_places
  · exact answerSound_of_places answerLinesRead_places
  · exact answerSound_of_places answerRequest_places
  · exact answerSound_of_places answerSignOff_places
  · exact answerSound_of_places answerStatus_places
  · exact answerSound_of_places answerNotices_places
  · exact answerSound_of_places answerReset_places

/-! ### Interpretations, events and steps -/

theorem Part.placeReply_sound (r : Reply) {p : Part} (hs : p.tableSound = true) : (p.placeReply r).tableSound = true :=
  Part.SamePlaces.sound (by simp [Part.SamePlaces]) hs

theorem Part.interpret_sound {item : RxItem} {f : Part → Part × Reply} {p : Part} (hs : p.tableSound = true)
    (hf : (f p).1.tableSound = true) : (p.interpret item f).tableSound = true := by
  unfold Part.interpret
  split
  · exact hs
  · split
    · exact hs
    · exact Part.placeReply_sound _ hf

theorem answerCommand_sound {f : List Byte → Part → Answer} (hf : AnswerSound f) (kind : Byte) (payload : List Byte)
    {p : Part} (hs : p.tableSound = true) : (answerCommand kind payload f p).1.tableSound = true := by
  unfold answerCommand
  (repeat' split) <;> first | exact hs | exact hf _ _ hs

theorem Part.command_sound {f : List Byte → Part → Answer} (hf : AnswerSound f) (kind : Byte) (payload : List Byte)
    {p : Part} (hs : p.tableSound = true) : (p.command kind payload f).tableSound = true :=
  Part.interpret_sound hs (answerCommand_sound hf kind payload hs)

theorem answerItem_sound (item : RxItem) {p : Part} (hs : p.tableSound = true) :
    (answerItem item p).1.tableSound = true := by
  cases item with
  | error cause => exact hs
  | frame kind payload =>
    simp only [answerItem]
    split
    · rename_i f h; exact answerCommand_sound (answerOfKind_sound h) kind payload hs
    · exact hs

theorem Part.interpretDue_sound {p : Part} (hs : p.tableSound = true) : p.interpretDue.tableSound = true := by
  unfold Part.interpretDue
  split
  · exact Part.interpret_sound (by exact hs) (answerItem_sound _ (by exact hs))
  · exact hs

theorem Part.finish_sound {p : Part} (hs : p.tableSound = true) : p.finish.tableSound = true :=
  Part.SamePlaces.sound (by simp [Part.SamePlaces]) hs

@[simp] theorem Part.receive_table (b : Byte) (p : Part) : (p.receive b).table = p.table := by
  unfold Part.receive Part.endFrame Part.framingError; (repeat' split) <;> rfl

/-- Whatever a reset removes, it moves no record. -/
theorem Part.resetEngine_sound {p : Part} (hs : p.tableSound = true) : p.resetEngine.tableSound = true := by
  have ht : p.resetEngine.table = p.table.map (fun o => o.bind SiteRecord.afterEngineReset) := by
    unfold Part.resetEngine; dsimp only; split <;> simp
  refine Part.tableSound_of_slots hs (by simp [ht]) (fun i r h => ?_)
  have hslot : p.resetEngine.slotAt i = (p.slotAt i).bind SiteRecord.afterEngineReset := by
    simp only [Part.slotAt, ht, List.getElem?_map]
    cases p.table[i]? <;> simp
  rw [hslot, Option.bind_eq_some_iff] at h
  obtain ⟨q, hq, hr⟩ := h
  refine ⟨q, hq, ?_⟩
  unfold SiteRecord.afterEngineReset at hr
  split at hr <;> cases hr
  rfl

theorem reset_tableSound : State.reset.part.tableSound = true := by decide

theorem Part.resetWhole_sound (p : Part) : p.resetWhole.tableSound = true :=
  (Part.tableSound_of_table (p := State.reset.part) rfl).trans reset_tableSound

theorem Part.takeReset_sound {p : Part} (hs : p.tableSound = true) : p.takeReset.tableSound = true := by
  unfold Part.takeReset
  split
  · exact Part.resetEngine_sound (by exact hs)
  · exact p.resetWhole_sound
  · exact hs

theorem Part.recordSent_sound {p : Part} (hs : p.tableSound = true) : p.recordSent.tableSound = true := by
  unfold Part.recordSent
  split
  · exact hs
  · exact Part.finish_sound (Part.interpretDue_sound (Part.takeReset_sound (by exact hs)))
  · exact Part.finish_sound (by exact hs)

@[simp] theorem Part.opReady_table (op : TuneOp) (p : Part) : (p.opReady op).table = p.table := by
  simp [Part.opReady]

@[simp] theorem Part.roundExpiry_places (p : Part) : p.SamePlaces p.roundExpiry := by
  simp [Part.SamePlaces, Part.roundExpiry]

/-- A step of the part whose table stays sound. -/
def KeepsTable (s : State) (o : Host.Outcome State Fault Refusal) : Prop :=
  ∃ t, o = .next t ∧ (s.part.tableSound = true → t.part.tableSound = true)

theorem keepsTable_same (s : State) : KeepsTable s (.next s) := ⟨s, rfl, id⟩

theorem keepsTable_of_sound {s : State} {q : Part} (h : s.part.tableSound = true → q.tableSound = true) :
    KeepsTable s (.next (s.withPart q)) := ⟨_, rfl, h⟩

theorem keepsTable_next {s t : State} (h : s.part.SamePlaces t.part) : KeepsTable s (.next t) := ⟨t, rfl, h.sound⟩

theorem keepsTable_command {s : State} {f : List Byte → Part → Answer} (hf : AnswerSound f) (kind : Byte)
    (payload : List Byte) : KeepsTable s (.next (s.withPart (s.part.command kind payload f))) :=
  keepsTable_of_sound (Part.command_sound hf kind payload)

/-- Each of the 48 commands keeps the table sound. -/
theorem exec_keepsTable (c : Instr) (s : State) : KeepsTable s (exec c s) := by
  cases c with
  | info payload => exact keepsTable_command (answerSound_of_places answerInfo_places) _ payload
  | paramSet payload => exact keepsTable_command (answerSound_of_places answerParamSet_places) _ payload
  | paramGet payload => exact keepsTable_command (answerSound_of_places answerParamGet_places) _ payload
  | identity payload => exact keepsTable_command (answerSound_of_places answerIdentity_places) _ payload
  | sitePut payload => exact keepsTable_command answerSitePut_sound _ payload
  | siteDrop payload => exact keepsTable_command answerSiteDrop_sound _ payload
  | siteGet payload => exact keepsTable_command (answerSound_of_places answerSiteGet_places) _ payload
  | siteList payload => exact keepsTable_command (answerSound_of_places answerSiteList_places) _ payload
  | run payload => exact keepsTable_command (answerSound_of_places answerRun_places) _ payload
  | halt payload => exact keepsTable_command (answerSound_of_places answerHalt_places) _ payload
  | step payload => exact keepsTable_command (answerSound_of_places answerStep_places) _ payload
  | cont payload => exact keepsTable_command (answerSound_of_places answerContinue_places) _ payload
  | watchSet payload => exact keepsTable_command (answerSound_of_places answerWatchSet_places) _ payload
  | watchClear payload => exact keepsTable_command (answerSound_of_places answerWatchClear_places) _ payload
  | move payload => exact keepsTable_command (answerSound_of_places answerMove_places) _ payload
  | airIn payload => exact keepsTable_command answerAirIn_sound _ payload
  | airSent payload => exact keepsTable_command (answerSound_of_places answerAirSent_places) _ payload
  | linesSet payload => exact keepsTable_command (answerSound_of_places answerLinesSet_places) _ payload
  | linesRead payload => exact keepsTable_command (answerSound_of_places answerLinesRead_places) _ payload
  | request payload => exact keepsTable_command (answerSound_of_places answerRequest_places) _ payload
  | signOff payload => exact keepsTable_command (answerSound_of_places answerSignOff_places) _ payload
  | status payload => exact keepsTable_command (answerSound_of_places answerStatus_places) _ payload
  | notices payload => exact keepsTable_command (answerSound_of_places answerNotices_places) _ payload
  | reset payload => exact keepsTable_command (answerSound_of_places answerReset_places) _ payload
  | frameError cause => exact keepsTable_of_sound (fun hs => Part.interpret_sound hs hs)
  | unknown kind payload =>
    show KeepsTable s (execUnknown kind payload s)
    unfold execUnknown
    split
    · exact keepsTable_same s
    · exact keepsTable_of_sound (fun hs => Part.interpret_sound hs hs)
  | lrxByte b =>
    exact keepsTable_of_sound (fun hs =>
      Part.interpretDue_sound ((Part.tableSound_of_table (Part.receive_table b s.part)).trans hs))
  | linkGapExpiry =>
    show KeepsTable s (execLinkGapExpiry s)
    unfold execLinkGapExpiry
    split
    · exact keepsTable_of_sound (fun hs => Part.interpretDue_sound (by exact hs))
    · exact keepsTable_same s
  | recordSent => exact keepsTable_of_sound Part.recordSent_sound
  | powerOn => exact keepsTable_of_sound (fun _ => s.part.resetWhole_sound)
  | resetLine => exact keepsTable_of_sound (fun _ => s.part.resetWhole_sound)
  | shiftLatchDone | lockBlankEnd _ | lock | lockWaitExpiry | settleExpiry | roundExpiry | sampleTimerExpiry
  | rssiConversionDone _ | listenExpiry | batteryTimerExpiry | batteryConversionDone _ | inputEdge _ _
  | debounceExpiry _ | intervalExpiry | beaconWaitExpiry | grantWaitExpiry | txWaitExpiry =>
    simp only [exec, execShiftLatchDone, execLockBlankEnd, execLock, execLockWaitExpiry, execSettleExpiry,
      execRoundExpiry, execSampleTimerExpiry, execRssiConversionDone, execListenExpiry, execBatteryTimerExpiry,
      execBatteryConversionDone, execInputEdge, execDebounceExpiry, execIntervalExpiry, execBeaconWaitExpiry,
      execGrantWaitExpiry, execTxWaitExpiry]
    (repeat' split) <;> exact keepsTable_next (by simp [Part.SamePlaces, State.withPart])

/-- Settles O58: each command keeps the table sound, by the lemmas on what it does to the slots. -/
theorem stepsKeepTheTableSound : Obligations.StepsKeepTheTableSound := by
  unfold Obligations.StepsKeepTheTableSound
  intro s t hs ht
  unfold step at ht
  split at ht
  · rename_i c rest hp
    obtain ⟨u, hu, hk⟩ := exec_keepsTable c { s with pending := rest }
    rw [hu] at ht
    cases ht
    exact hk hs
  · cases ht
    exact hs

end Sys2Proof.Machine
end

section
/-! SUPPORT. The statements on the reset values (O3, O56), on the choices of the best record (O23), and on the host
commands of the site table (O18 to O22). -/

namespace Sys2Proof.Machine

/-! ### The reset values -/

/-- Power-on and the RESET line leave every block at its reset value, whatever the part was doing. -/
theorem Part.resetWhole_asPoweredOn (p : Part) : p.resetWhole.AsPoweredOn where
  params := show allParams.map Params.defaults.get = defaultColumn by decide
  table := rfl
  tuner := ⟨rfl, rfl, rfl, rfl, rfl, rfl, rfl, rfl, rfl, rfl⟩
  sched := ⟨rfl, rfl, rfl, rfl, rfl, rfl⟩
  engine := ⟨rfl, rfl, rfl, rfl, rfl, rfl, rfl, rfl, rfl⟩
  sup := ⟨rfl, rfl, rfl, rfl, rfl, rfl, rfl, rfl, rfl⟩
  aff := ⟨rfl, rfl, rfl, rfl, rfl, rfl, rfl, rfl, rfl, rfl, rfl, rfl⟩
  lines := ⟨rfl, rfl, rfl, rfl, rfl, rfl, rfl, rfl, rfl⟩
  conv := ⟨rfl, rfl⟩
  link := ⟨rfl, rfl, rfl, rfl, rfl, rfl, rfl, rfl, rfl, rfl⟩

/-- The part after power-on is what power-on leaves of it. -/
theorem reset_resetWhole : State.reset.part.resetWhole = State.reset.part := rfl

/-- Settles O3: both commands leave `Part.resetWhole`, and so does power-on itself. -/
theorem powerOnAndResetLineReset : Obligations.PowerOnAndResetLineReset := by
  unfold Obligations.PowerOnAndResetLineReset
  refine ⟨reset_resetWhole ▸ Part.resetWhole_asPoweredOn _, fun s => ?_⟩
  refine ⟨s.withPart s.part.resetWhole, rfl, rfl, Part.resetWhole_asPoweredOn _, rfl, fun i => ?_⟩
  cases i <;> rfl

/-- Settles O56: the four invariants evaluated on the reset state. -/
theorem resetIsSound : Obligations.ResetIsSound :=
  ⟨by decide, reset_tableSound, by decide, by decide⟩

/-! ### The choices -/

/-- Settles O23: each choice is the best of the occupied slots that qualify, by `Part.pickMax_occupied`. -/
theorem choicesTakeTheBestAtTheLowestPosition : Obligations.ChoicesTakeTheBestAtTheLowestPosition := by
  unfold Obligations.ChoicesTakeTheBestAtTheLowestPosition
  intro p
  have victims (keep : List Nat) := p.pickMax_occupied SiteRecord.advAge (p.evictable keep)
  have bests := p.pickMax_occupied (scoreKey p.params) p.candidateFit
  have losses (tried : List Nat) := p.pickMax_occupied (scoreKey p.params) (p.lossFit tried)
  have best_eq (hm : p.params.mode = .auto) (hh : p.engine.holdoff = 0) :
      p.best = pickMax (scoreKey p.params) (p.occupied.filter (fun x => p.candidateFit x.2)) := by
    simp [Part.best, hm, hh]
  refine ⟨fun keep => (victims keep).2, fun keep => (victims keep).1, fun hm hh i b hb => ?_, fun hm hh hb => ?_,
    fun h => ?_, fun tried => (losses tried).2, fun tried => (losses tried).1⟩
  · exact bests.2 i b (best_eq hm hh ▸ hb)
  · exact bests.1 (best_eq hm hh ▸ hb)
  · have hn : ¬ (p.params.mode = .auto ∧ p.engine.holdoff = 0) := by
      rintro ⟨hm, hh⟩
      rcases h with h | h
      · rw [hm] at h; cases h
      · omega
    simp only [Part.best, Bool.and_eq_true, decide_eq_true_eq, if_neg hn]

/-! ### Refusals -/

theorem Part.sitePut_badArg {p : Part} {site channel : Nat} {bias : Int}
    (h : ¬ (siteOk site = true ∧ channelOk channel = true)) : p.sitePut site channel bias = p.refuse .badArg := by
  have hc : (!siteOk site || !channelOk channel) = true := by
    cases hs : siteOk site <;> cases hch : channelOk channel <;> simp_all
  simp [Part.sitePut, hc]

/-- SITE PUT beyond its ranges' check, for a site in the table (R16). -/
theorem Part.sitePut_known {p : Part} {site channel : Nat} {bias : Int} {r : SiteRecord} (hs : siteOk site = true)
    (hc : channelOk channel = true) (hr : p.record site = some r) :
    p.sitePut site channel bias =
      if p.aff.serving = some site ∧ r.channel ≠ channel then p.refuse .state
      else if p.target = some site ∧ r.channel ≠ channel then p.refuse .busy
      else ⟨p.putExisting r channel (clampInt bias (-40) 40),
        if clampInt bias (-40) 40 = bias then .ok else .clamped, [signedByte (clampInt bias (-40) 40)]⟩ := by
  simp [Part.sitePut, hs, hc, hr]

/-- SITE PUT for an unknown site with no room (R16, R17). -/
theorem Part.sitePut_full {p : Part} {site channel : Nat} {bias : Int} (hs : siteOk site = true)
    (hc : channelOk channel = true) (hr : p.record site = none) (hm : p.makeRoom [] = none) :
    p.sitePut site channel bias = p.refuse .tableFull := by
  simp [Part.sitePut, hs, hc, hr, hm]

/-- SITE PUT for an unknown site with room (R17). -/
theorem Part.sitePut_new {p q : Part} {site channel i : Nat} {bias : Int} (hs : siteOk site = true)
    (hc : channelOk channel = true) (hr : p.record site = none) (hm : p.makeRoom [] = some (i, q)) :
    p.sitePut site channel bias =
      ⟨(q.place i (SiteRecord.fresh site channel .pinned (clampInt bias (-40) 40))).offerWrite site .host,
        if clampInt bias (-40) 40 = bias then .ok else .clamped, [signedByte (clampInt bias (-40) 40)]⟩ := by
  simp [Part.sitePut, hs, hc, hr, hm]

theorem Part.makeRoom_none {p : Part} {keep : List Nat} (hl : p.lowestEmpty = none) (hv : p.victim keep = none) :
    p.makeRoom keep = none := by
  simp [Part.makeRoom, hl, hv]

/-- Settles O21: the chain of checks of R16 and of R19, each refusal a reply and nothing else. -/
theorem siteCommandsRefusedInOrder : Obligations.SiteCommandsRefusedInOrder := by
  unfold Obligations.SiteCommandsRefusedInOrder
  constructor
  · intro s tag s1 s0 c1 c0 b code ht hh hcode
    suffices hf : answerSitePut [s1, s0, c1, c0, b] s.part = s.part.refuse code from
      congrArg (fun q => Host.Outcome.next (s.withPart q)) (Part.command_refused hh ht hf)
    show s.part.sitePut (u16 s1 s0) (u16 c1 c0) (s8 b) = _
    split at hcode
    · rename_i hbad; rw [Part.sitePut_badArg hbad, hcode]
    · rename_i hok
      obtain ⟨hs, hc⟩ := not_not.1 hok
      split at hcode
      · rename_i r hr
        obtain ⟨hne, hcode⟩ := hcode
        rw [Part.sitePut_known hs hc hr]
        split at hcode
        · rename_i hv; rw [if_pos ⟨hv, hne⟩, hcode]
        · rename_i hv; rw [if_neg (fun h => hv h.1), if_pos ⟨hcode.1, hne⟩, hcode.2]
      · rename_i hr
        rw [Part.sitePut_full hs hc hr (Part.makeRoom_none hcode.1 hcode.2.1), hcode.2.2]
  · intro s tag s1 s0 code ht hh hcode
    suffices hf : answerSiteDrop [s1, s0] s.part = s.part.refuse code from
      congrArg (fun q => Host.Outcome.next (s.withPart q)) (Part.command_refused hh ht hf)
    show s.part.siteDrop (u16 s1 s0) = _
    unfold Part.siteDrop
    split at hcode
    · rename_i hs; simp [hs, hcode]
    · rename_i hs
      split at hcode
      · rename_i hr; simp [not_not.1 hs, hr, hcode]
      · rename_i hr
        have hn : (s.part.record (u16 s1 s0)).isNone = false := by simpa [Option.isNone_eq_false_iff, Option.isSome_iff_ne_none] using hr
        split at hcode
        · rename_i hv; simp [not_not.1 hs, hn, hv, hcode]
        · rename_i hv; simp [not_not.1 hs, hn, hv, hcode.1, hcode.2]

/-! ### Taken commands -/

/-- The outputs stand driven by what they read. -/
theorem Part.outputsDriven_congr {p q : Part} (ht : q.tuning = p.tuning) (ha : q.aff = p.aff) (hl : q.lines = p.lines) :
    q.outputsDriven = p.outputsDriven := by
  simp only [Part.outputsDriven, ht, ha, hl]

/-- What making room leaves alone. -/
theorem Part.makeRoom_blocks {p q : Part} {keep : List Nat} {i : Nat} (h : p.makeRoom keep = some (i, q)) :
    q.tuning = p.tuning ∧ q.sup = p.sup ∧ q.aff = p.aff ∧ q.lines = p.lines ∧ q.conv = p.conv ∧ q.engine = p.engine := by
  unfold Part.makeRoom at h
  split at h
  · cases h; simp
  · split at h
    · cases h; simp [Part.removeRec, Part.unsettle]
    · cases h

/-- The room is the lowest empty slot, or else the victim's. -/
theorem Part.makeRoom_some {p : Part} {keep : List Nat} {i : Nat}
    (h : p.lowestEmpty = some i ∨ (p.lowestEmpty = none ∧ ∃ v, p.victim keep = some (i, v))) :
    ∃ q, p.makeRoom keep = some (i, q) := by
  rcases h with h | ⟨h, v, hv⟩
  · exact ⟨p, by simp [Part.makeRoom, h]⟩
  · simp [Part.makeRoom, h, hv]

/-- What the site commands leave alone in the answer's part, they leave alone in the step; the reply is the answer's. -/
theorem Part.placeReply_frame {p q : Part} (r : Reply) (hh : p.hears = true) (hp : q.params = p.params)
    (ht : q.tuning = p.tuning) (hs : q.sup = p.sup) (ha : q.aff = p.aff) (hl : q.lines = p.lines)
    (hc : q.conv = p.conv) :
    (q.placeReply r).table = q.table ∧ (q.placeReply r).link.reply = some r ∧ (q.placeReply r).params = p.params ∧
      (q.placeReply r).tuning = p.tuning ∧ (q.placeReply r).sup = p.sup ∧ (q.placeReply r).aff = p.aff ∧
      (q.placeReply r).lines = p.lines ∧ (q.placeReply r).conv = p.conv := by
  have hd : q.outputsDriven = true := (Part.outputsDriven_congr ht ha hl).trans (Part.hears_driven hh)
  simp [Part.placeReply_lines r hd, hp, ht, hs, ha, hl, hc]

/-- Settles O18: the room of `Part.makeRoom`, filled, in a step that leaves the named blocks alone. -/
theorem sitePutCreatesARecord : Obligations.SitePutCreatesARecord := by
  unfold Obligations.SitePutCreatesARecord
  intro s tag s1 s0 c1 c0 b i ht hh hsound hs hc hr hroom
  obtain ⟨q, hq⟩ := Part.makeRoom_some hroom
  obtain ⟨-, htable⟩ := Part.makeRoom_table hsound hq
  obtain ⟨h1, h2, h3, h4, h5, -⟩ := Part.makeRoom_blocks hq
  have hparams := (Part.makeRoom_keeps hq).1
  have hans : answerSitePut [s1, s0, c1, c0, b] s.part = _ := Part.sitePut_new hs hc hr hq
  refine ⟨_, congrArg (fun q => Host.Outcome.next (s.withPart q)) (Part.command_of_hears hh ht), ?_⟩
  rw [hans]
  have hf := Part.placeReply_frame ⟨0x05 + 0x80, tag, if clampInt (s8 b) (-40) 40 = s8 b then .ok else .clamped,
    [signedByte (clampInt (s8 b) (-40) 40)]⟩ (p := s.part)
    (q := (q.place i (SiteRecord.fresh (u16 s1 s0) (u16 c1 c0) .pinned (clampInt (s8 b) (-40) 40))).offerWrite
      (u16 s1 s0) .host) hh (by simp [hparams]) (by simp [Part.place, h1]) (by simp [Part.place, h2])
    (by simp [Part.place, h3]) (by simp [Part.place, h4]) (by simp [Part.place, h5])
  obtain ⟨f1, f2⟩ := hf
  exact ⟨f1.trans (by simp [htable]; rfl), f2⟩

/-- The record a taken SITE PUT leaves of a known one (R18). -/
def SiteRecord.reput (channel : Nat) (bias : Int) (r : SiteRecord) : SiteRecord :=
  let pinned := { r with origin := .pinned, bias := bias }
  if r.channel = channel then pinned else pinned.rechannel channel

/-- A taken SITE PUT for a known site replaces its slot. -/
theorem Part.putExisting_table {p : Part} (hs : p.tableSound = true) {i : Nat} {r : SiteRecord}
    (h : p.slotAt i = some r) (channel : Nat) (bias : Int) :
    (p.putExisting r channel bias).table = p.table.set i (some (r.reput channel bias)) := by
  let pin : SiteRecord → SiteRecord := fun r => { r with origin := .pinned, bias := bias }
  have hpin : (p.updateRec r.site pin).table = p.table.set i (some (pin r)) := Part.updateRec_table hs h pin
  have hslot : (p.updateRec r.site pin).slotAt i = some (pin r) := by
    rw [Part.slotAt_updateRec, h]; simp
  show (((if r.channel = channel then p.updateRec r.site pin
    else (p.updateRec r.site pin).rechannel r.site channel).offerWrite r.site .host).table) = _
  rw [(Part.offerWrite_unwatched _ _ _).1]
  unfold SiteRecord.reput
  split
  · exact hpin
  · have hre := Part.updateRec_table (Part.updateRec_sound hs r.site (f := pin) (fun _ => rfl)) hslot
      (SiteRecord.rechannel channel)
    rw [hpin, List.set_set] at hre
    simpa [Part.rechannel] using hre

/-- What a taken SITE PUT for a known site leaves alone. -/
theorem Part.putExisting_blocks (r : SiteRecord) (channel : Nat) (bias : Int) (p : Part) :
    (p.putExisting r channel bias).params = p.params ∧ (p.putExisting r channel bias).tuning = p.tuning ∧
      (p.putExisting r channel bias).sup = p.sup ∧ (p.putExisting r channel bias).aff = p.aff ∧
      (p.putExisting r channel bias).lines = p.lines ∧ (p.putExisting r channel bias).conv = p.conv := by
  unfold Part.putExisting; dsimp only; split <;> simp [Part.rechannel]

/-- Settles O19: a SITE PUT that passes R16's checks replaces the record's slot, by `Part.putExisting_table`. -/
theorem sitePutUpdatesARecord : Obligations.SitePutUpdatesARecord := by
  unfold Obligations.SitePutUpdatesARecord
  intro s tag s1 s0 c1 c0 b i r ht hh hsound hs hc hslot hsite hfree
  have hr : s.part.record (u16 s1 s0) = some r := hsite ▸ Part.record_of_slot hsound hslot
  obtain ⟨h0, h1, h2, h3, h4, h5⟩ := s.part.putExisting_blocks r (u16 c1 c0) (clampInt (s8 b) (-40) 40)
  have hans : answerSitePut [s1, s0, c1, c0, b] s.part = _ := Part.sitePut_known hs hc hr
  rw [← hsite] at hans
  have hv : ¬ (s.part.aff.serving = some r.site ∧ r.channel ≠ u16 c1 c0) := by tauto
  have ht' : ¬ (s.part.target = some r.site ∧ r.channel ≠ u16 c1 c0) := by tauto
  rw [if_neg hv, if_neg ht'] at hans
  refine ⟨_, congrArg (fun q => Host.Outcome.next (s.withPart q)) (Part.command_of_hears hh ht), ?_⟩
  rw [hans]
  obtain ⟨f1, f2⟩ := Part.placeReply_frame ⟨0x05 + 0x80, tag, if clampInt (s8 b) (-40) 40 = s8 b then .ok else .clamped,
    [signedByte (clampInt (s8 b) (-40) 40)]⟩ hh h0 h1 h2 h3 h4 h5
  exact ⟨f1.trans (Part.putExisting_table hsound hslot _ _), f2⟩

/-- Settles O20: a SITE DROP that passes R19's checks removes the record, by `Part.removeRec_table`. -/
theorem siteDropEmptiesTheSlot : Obligations.SiteDropEmptiesTheSlot := by
  unfold Obligations.SiteDropEmptiesTheSlot
  intro s tag s1 s0 i r ht hh hsound hs hslot hsite hserving htarget
  have hr : s.part.record (u16 s1 s0) = some r := hsite ▸ Part.record_of_slot hsound hslot
  have hans : answerSiteDrop [s1, s0] s.part = (s.part.dropSite r.site).ok [] := by
    rw [← hsite] at hr hs
    simp [answerSiteDrop, Part.siteDrop, ← hsite, hs, hr, hserving, htarget]
  have hlive : (s.part.dropSite r.site).stepRoundLive = true := Part.hears_live hh
  have hdriven : (s.part.dropSite r.site).outputsDriven = true := Part.hears_driven hh
  refine ⟨_, congrArg (fun q => Host.Outcome.next (s.withPart q)) (Part.command_taken hh ht hans hlive hdriven), ?_⟩
  have htable : (s.part.dropSite r.site).table = s.part.table.set i none :=
    Part.removeRec_table (p := { s.part with engine.cand := _ }) hsound hslot
  refine ⟨htable, ?_, rfl, rfl, rfl, rfl, rfl, rfl, rfl, rfl, rfl, rfl, rfl, rfl, rfl, rfl⟩
  rfl

/-! ### Reports -/

theorem bitsNat_testBit (bits : List Bool) (n : Nat) : (bitsNat bits).testBit n = bits.getD n false := by
  induction bits generalizing n with
  | nil => simp [bitsNat]
  | cons b bs ih =>
    cases n with
    | zero => cases b <;> simp [bitsNat, Nat.testBit_zero]
    | succ n =>
      have hd : bitsNat (b :: bs) / 2 = bitsNat bs := by simp only [bitsNat]; split <;> omega
      rw [Nat.testBit_succ, hd, ih]
      simp

/-- The bits of a flag byte are the list's (R196). -/
theorem flagByte_getLsbD (bits : List Bool) {n : Nat} (h : n < 8) : (flagByte bits).getLsbD n = bits.getD n false := by
  rw [flagByte, byte, BitVec.getLsbD_ofNat, bitsNat_testBit, decide_eq_true h, Bool.true_and]

theorem flagByte_four (a b c d : Bool) :
    flagByte [a, b, c, d] =
      byte ((if a = true then 1 else 0) + (if b = true then 2 else 0) + (if c = true then 4 else 0) +
        (if d = true then 8 else 0)) := by
  cases a <;> cases b <;> cases c <;> cases d <;> rfl

theorem filter_isSome_length (l : List (Option SiteRecord)) (k : Nat) :
    (occupiedFrom k l).length = (l.filter Option.isSome).length := by
  induction l generalizing k with
  | nil => rfl
  | cons o l ih => cases o <;> simp [occupiedFrom, ih]

theorem occupiedFrom_records (l : List (Option SiteRecord)) (k : Nat) :
    (occupiedFrom k l).map Prod.snd = l.filterMap id := by
  induction l generalizing k with
  | nil => rfl
  | cons o l ih => cases o <;> simp [occupiedFrom, ih]

theorem Part.isSome_slotAt (p : Part) (i : Nat) : (p.slotAt i).isSome = (p.table.map Option.isSome).getD i false := by
  unfold Part.slotAt
  rw [List.getD_eq_getElem?_getD, List.getElem?_map]
  cases p.table[i]? with
  | none => rfl
  | some o => cases o <;> rfl

/-- The 19 bytes of a site record, written out (R20, R196). -/
theorem Part.recordBytes_eq (p : Part) (i : Nat) (r : SiteRecord) :
    p.recordBytes i r =
      [byte i,
       byte ((if p.aff.serving = some r.site then 1 else 0) +
         (if p.engine.cand.map Candidate.site = some r.site then 2 else 0) +
         (if p.target = some r.site then 4 else 0) + (if p.coChannel r then 8 else 0)),
       byte (r.site / 256), byte r.site, byte (r.channel / 256), byte r.channel, byte r.origin.code,
       BitVec.ofInt 8 r.bias,
       byte ((if r.level.isSome then 1 else 0) + (if r.confirm.isSome then 2 else 0) +
         (if r.load.isSome then 4 else 0) + (if r.bar.isSome then 8 else 0)),
       byte ((r.level.map Level.mean).getD 0),
       byte ((r.level.map Level.f16).getD 0 / 256), byte ((r.level.map Level.f16).getD 0),
       byte r.age, byte (r.confirm.getD 0), byte (r.load.getD 0),
       byte ((r.bar.map (fun b => b.kind.code)).getD 0), byte ((r.bar.map Bar.remaining).getD 0),
       byte r.failures, byte r.advAge] := by
  simp only [Part.recordBytes, Part.rolesByte, SiteRecord.presenceByte, flagByte_four, beq_iff_eq]
  rfl

/-- Settles O22: the reports are built from the slots and leave the part as it is. -/
theorem siteGetAndSiteListReport : Obligations.SiteGetAndSiteListReport := by
  unfold Obligations.SiteGetAndSiteListReport
  constructor
  · intro s tag sel v1 v0 i r ht hh hsel
    have hf : answerSiteGet [sel, v1, v0] s.part = s.part.ok (s.part.recordBytes i r) := by
      rcases hsel with ⟨rfl, hs, hr⟩ | ⟨rfl, rfl, hi, hr⟩
      · simp [answerSiteGet, hs, hr, Part.siteGet]
      · simp [answerSiteGet, hi, hr, Part.siteGet]
    rw [← Part.recordBytes_eq]
    exact congrArg (fun q => Host.Outcome.next (s.withPart q))
      (Part.command_taken hh ht hf (Part.hears_live hh) (Part.hears_driven hh))
  · intro s tag ht hh hl
    let bits := s.part.table.map Option.isSome
    refine ⟨flagByte (bits.drop 16), flagByte ((bits.drop 8).take 8), flagByte (bits.take 8), fun n hn => ?_, ?_⟩
    · simp only [flagByte_getLsbD _ hn, Part.isSome_slotAt]
      refine ⟨?_, ?_, ?_⟩ <;> simp [bits, List.getD_eq_getElem?_getD, hn]
    · have hsites : s.part.listedSites =
          (s.part.table.filterMap id).flatMap (fun r => [byte (r.site / 256), byte r.site]) := by
        rw [← occupiedFrom_records s.part.table 0, List.flatMap_map]
        rfl
      have hf : answerSiteList [] s.part = s.part.ok
          (byte (s.part.table.filter Option.isSome).length :: flagByte (bits.drop 16) ::
            flagByte ((bits.drop 8).take 8) :: flagByte (bits.take 8) ::
            (s.part.table.filterMap id).flatMap (fun r => [byte (r.site / 256), byte r.site])) := by
        rw [← hsites, ← filter_isSome_length s.part.table 0]
        rfl
      exact congrArg (fun q => Host.Outcome.next (s.withPart q))
        (Part.command_taken hh ht hf (Part.hears_live hh) (Part.hears_driven hh))

end Sys2Proof.Machine
end

section
/-! SUPPORT. A record's row does what its interpretation does (R183), and the reset that a sent RESET reply brings about
(R194): the statement O17. -/

namespace Sys2Proof.Machine

/-! ### The row of a record -/

/-- A kind with no answer of its own is no command kind (R183 step 2). -/
theorem not_isCommandKind_of_answerOfKind {kind : Byte} (h : answerOfKind kind = none) : isCommandKind kind = false := by
  unfold answerOfKind at h
  split at h <;> cases h
  simp only [isCommandKind, Bool.and_eq_false_iff, decide_eq_false_iff_not]
  by_contra hc
  have : 1 ≤ kind.toNat ∧ kind.toNat ≤ 24 := by omega
  obtain ⟨h1, h2⟩ := this
  generalize kind.toNat = n at *
  interval_cases n <;> simp_all

/-- The row of a command record interprets it by its kind's answer. -/
theorem exec_rowOfRecord_command {kind : Byte} {f : List Byte → Part → Answer} (hf : answerOfKind kind = some f)
    (payload : List Byte) (t : State) :
    exec (rowOfRecord kind payload) t = .next (t.withPart (t.part.command kind payload f)) := by
  have hk (n : Nat) (h : kind.toNat = n) : kind = BitVec.ofNat 8 n := by rw [← h, BitVec.ofNat_toNat, BitVec.setWidth_eq]
  unfold answerOfKind at hf
  split at hf <;> cases hf
  all_goals (rename_i h; obtain rfl := hk _ h; rfl)

/-- Any record's row does what the interpretation of the receive buffer would do with it (R182, R183). -/
theorem exec_rowOfRecord (kind : Byte) (payload : List Byte) (t : State) :
    exec (rowOfRecord kind payload) t =
      .next (t.withPart (t.part.interpret (.frame kind payload) (answerItem (.frame kind payload)))) := by
  cases hf : answerOfKind kind with
  | some f =>
    rw [exec_rowOfRecord_command hf]
    have ha : answerItem (.frame kind payload) = answerCommand kind payload f := by
      funext p; simp only [answerItem, hf]
    rw [ha]
    rfl
  | none =>
    have hn := not_isCommandKind_of_answerOfKind hf
    have ha : answerItem (.frame kind payload) = answerUnknown kind payload := by
      funext p; simp only [answerItem, hf]
    rw [Laws.RecordRow.row_unknown payload hn, ha]
    show execUnknown kind payload t = _
    simp only [execUnknown, hn, Bool.false_eq_true, if_false]

/-! ### The runs a reset ends -/

@[simp] theorem Part.mapRun_blocks (f : SampleRun → SampleRun) (p : Part) :
    (p.mapRun f).tuning = p.tuning ∧ (p.mapRun f).engine = p.engine ∧ (p.mapRun f).sup = p.sup ∧
      (p.mapRun f).lines = p.lines ∧ (p.mapRun f).conv = p.conv ∧ (p.mapRun f).link = p.link ∧
      (p.mapRun f).freeCount = p.freeCount := by
  unfold Part.mapRun; split <;> simp

@[simp] theorem Part.releaseConverter_blocks (p : Part) :
    p.releaseConverter.tuning = p.tuning ∧ p.releaseConverter.engine = p.engine ∧ p.releaseConverter.sup = p.sup ∧
      p.releaseConverter.link = p.link ∧ p.releaseConverter.freeCount = p.freeCount := by
  unfold Part.releaseConverter; split <;> simp [Part.takeRssi, Part.takeBattery]

@[simp] theorem Part.stopRun_blocks (p : Part) :
    p.stopRun.tuning = p.tuning ∧ p.stopRun.engine = p.engine ∧ p.stopRun.sup = p.sup ∧
      p.stopRun.link = p.link ∧ p.stopRun.freeCount = p.freeCount := by
  unfold Part.stopRun; dsimp only; (repeat' split) <;> simp

/-- With no sample under way a run gives up its place waiting alone (R44). -/
theorem Part.stopRun_unheld {p : Part} (h : p.conv.state ≠ .rssi) :
    p.stopRun = { p with conv.waiting := if p.conv.waiting = some .rssi then none else p.conv.waiting } := by
  unfold Part.stopRun
  dsimp only
  split <;> simp

/-- A run that ends with its sample under way leaves the converter idle, or to the battery (R176). -/
theorem Part.stopRun_held {p : Part} (h : p.conv.state = .rssi) :
    p.stopRun =
      if p.conv.waiting = some .battery then { p with conv := ⟨.battery true, none⟩, lines.battTimer := some 1000 }
      else { p with conv := ⟨.idle, none⟩ } := by
  unfold Part.stopRun
  rcases hw : p.conv.waiting with _ | _ | _ <;> simp [h, hw, Part.releaseConverter, Part.takeBattery]

/-! ### The part a reset leaves -/

/-- The part from which a sent reply goes on (R180, R182). -/
def Part.replySent (p : Part) : Part := { p with link.tx := .idle, link.ltx := ltxRest, link.reply := none }

/-- The part of a due reset, with the record that waits taken out of the receive buffer (R182, R194). -/
def Part.afterReset (p : Part) : Part := { p.replySent.takeReset with link.buffer := none }

/-- RESET ENGINE before its notice: each block as its chapter gives. -/
def Part.engineReset (p : Part) : Part :=
  ({ p.stopRun with
    table := p.table.map (fun o => o.bind SiteRecord.afterEngineReset)
    tuning := Tuning.atReset
    sched := Sched.atReset
    engine := Engine.atReset p.engine.watch0 p.engine.watch1
    sup := Sup.atReset p.params
    aff := Aff.atReset p.aff.identity p.aff.lastNumber } : Part).driveOutputs

theorem Part.resetEngine_eq (p : Part) :
    p.resetEngine =
      if p.engine.state = .halted then p.engineReset else p.engineReset.queueNotice (.engineState .halted .reset none) := by
  unfold Part.resetEngine Part.engineReset
  simp only [Part.stopRun_stays, Part.stopRun_blocks, Part.stopRun_keeps]
  rfl

/-- The outputs of the lines after a reset: MUTE asserted, TXINH released. -/
theorem Part.engineReset_eq (p : Part) :
    p.engineReset =
      { p.stopRun with
        table := p.table.map (fun o => o.bind SiteRecord.afterEngineReset)
        tuning := Tuning.atReset
        sched := Sched.atReset
        engine := Engine.atReset p.engine.watch0 p.engine.watch1
        sup := Sup.atReset p.params
        aff := Aff.atReset p.aff.identity p.aff.lastNumber
        lines := { p.stopRun.lines.withMute true with txinh := false } } := by
  unfold Part.engineReset
  rw [Part.driveOutputs_away (by simp [Tuning.atReset])]
  cases h : p.stopRun.lines.mute <;> simp [Lines.withMute, h, Aff.atReset, HoState.atRest]

/-- After a reset no STEP round is left and the outputs stand, so the step's end is the transmitter's. -/
theorem Part.finish_of_reset {p : Part} (hf : p.engine.stepFlag = false) (hd : p.outputsDriven = true) :
    p.finish = p.startSending :=
  Part.finish_of_live (by simp [Part.stepRoundLive, hf]) hd

/-- An empty receive buffer emptied. -/
theorem Part.emptyBuffer_self {p : Part} (h : p.link.buffer = none) : { p with link.buffer := none } = p := by
  rw [← h]

/-- A reply sent with a reset due: the reset, and then the record that waits, or else the transmitter (R182, R185). -/
theorem recordSent_of_reset {s : State} {bytes : List Byte} (ht : s.part.link.tx = .reply bytes)
    (hb : s.part.replySent.takeReset.link.buffer = s.part.link.buffer)
    (hr : s.part.afterReset.link.reply = none) (hf : s.part.afterReset.engine.stepFlag = false)
    (hd : s.part.afterReset.outputsDriven = true) :
    exec .recordSent s =
      (match s.part.link.buffer with
      | none => .next ((s.withPart s.part.afterReset).withPart (s.withPart s.part.afterReset).part.startSending)
      | some (.frame kind payload) => exec (rowOfRecord kind payload) (s.withPart s.part.afterReset)
      | some (.error cause) => exec (.frameError cause) (s.withPart s.part.afterReset)) := by
  have he : exec .recordSent s = .next (s.withPart s.part.replySent.takeReset.interpretDue.finish) := by
    show Host.Outcome.next (s.withPart s.part.recordSent) = _
    unfold Part.recordSent
    rw [ht]
    rfl
  have hreply : s.part.replySent.takeReset.link.reply = none := hr
  rw [he]
  cases hbuf : s.part.link.buffer with
  | none =>
    rw [hbuf] at hb
    have hself : s.part.afterReset = s.part.replySent.takeReset := Part.emptyBuffer_self hb
    rw [Part.interpretDue_empty hb, ← hself, Part.finish_of_reset hf hd]
    rfl
  | some item =>
    rw [hbuf] at hb
    have hdue : s.part.replySent.takeReset.interpretDue.finish =
        s.part.afterReset.interpret item (answerItem item) := by
      have hi : s.part.afterReset.interpret item (answerItem item) =
          (answerItem item s.part.afterReset).1.placeReply (answerItem item s.part.afterReset).2 := by
        unfold Part.interpret
        rw [if_neg (by simp [Part.afterReset]), if_neg (by simp [hr])]
      have hdue : s.part.replySent.takeReset.interpretDue = s.part.afterReset.interpret item (answerItem item) := by
        unfold Part.interpretDue
        rw [hreply, hb]
        rfl
      rw [hdue, hi, Part.placeReply_finish]
    rw [hdue]
    cases item with
    | frame kind payload => exact (exec_rowOfRecord kind payload (s.withPart s.part.afterReset)).symm
    | error cause => rfl

/-- The part that RESET ENGINE finds: the reply is gone and the reset no longer due. -/
def Part.resetTaken (p : Part) : Part := { p.replySent with link.resetDue := none }

theorem Part.afterReset_engine {p : Part} (h : p.link.resetDue = some .engine) :
    p.afterReset =
      { (if p.engine.state = .halted then p.resetTaken.engineReset
        else p.resetTaken.engineReset.queueNotice (.engineState .halted .reset none)) with link.buffer := none } := by
  have ht : p.replySent.takeReset = p.resetTaken.resetEngine := by
    unfold Part.takeReset
    rw [show p.replySent.link.resetDue = some .engine from h]
    rfl
  rw [Part.afterReset, ht, Part.resetEngine_eq]
  rfl

/-- The notice of RESET ENGINE touches the link alone. -/
theorem Part.afterReset_blocks {p : Part} (h : p.link.resetDue = some .engine) :
    p.afterReset.params = p.resetTaken.engineReset.params ∧ p.afterReset.table = p.resetTaken.engineReset.table ∧
      p.afterReset.tuning = p.resetTaken.engineReset.tuning ∧ p.afterReset.sched = p.resetTaken.engineReset.sched ∧
      p.afterReset.engine = p.resetTaken.engineReset.engine ∧ p.afterReset.sup = p.resetTaken.engineReset.sup ∧
      p.afterReset.aff = p.resetTaken.engineReset.aff ∧ p.afterReset.lines = p.resetTaken.engineReset.lines ∧
      p.afterReset.conv = p.resetTaken.engineReset.conv := by
  rw [Part.afterReset_engine h]
  split <;> simp

/-- A notice does not look at the receive buffer. -/
theorem Part.queueNotice_emptyBuffer {p q : Part} (hl : q.link = { p.link with buffer := none })
    (hf : q.freeCount = p.freeCount) (n : Notice) :
    { (p.queueNotice n).link with buffer := none } = (q.queueNotice n).link := by
  unfold Part.queueNotice
  simp only [hl, hf]
  split_ifs <;> simp [hl]

theorem Part.resetTaken_engineReset_link (p : Part) :
    p.resetTaken.engineReset.link = p.resetTaken.link ∧ p.resetTaken.engineReset.freeCount = p.freeCount := by
  simp only [Part.engineReset, Part.driveOutputs_link, Part.driveOutputs_freeCount, Part.stopRun_blocks, true_and]
  rfl

/-- The link after RESET ENGINE: the record that waited is taken out, and the notice is queued unless the engine was
HALTED (R194). -/
theorem Part.afterReset_link {p : Part} (h : p.link.resetDue = some .engine) :
    p.afterReset.link =
      (let kept : Part := { p with
        link.tx := .idle, link.ltx := [true], link.reply := none, link.buffer := none, link.resetDue := none }
      if p.engine.state = .halted then kept.link
      else (kept.queueNotice (.engineState .halted .reset none)).link) := by
  obtain ⟨hl, hf⟩ := p.resetTaken_engineReset_link
  rw [Part.afterReset_engine h]
  split
  · simp only [hl]; rfl
  · exact Part.queueNotice_emptyBuffer (by rw [hl]; rfl) (by rw [hf]) _

/-- The slots after RESET ENGINE (R25). -/
theorem Part.slotAt_engineReset (p : Part) (i : Nat) :
    p.engineReset.slotAt i = (p.slotAt i).bind SiteRecord.afterEngineReset := by
  simp only [Part.slotAt, Part.engineReset, Part.driveOutputs_table, List.getElem?_map]
  cases p.table[i]? <;> simp

theorem SiteRecord.afterEngineReset_eq (r : SiteRecord) :
    r.afterEngineReset =
      if r.origin = .pinned then
        some { r with level := none, age := 0, confirm := none, load := none, bar := none, failures := 0, advAge := 0 }
      else none := by
  unfold SiteRecord.afterEngineReset
  cases ho : r.origin <;> simp [SiteRecord.fresh]

/-- The converter and the lines after RESET ENGINE (R176, R179). -/
theorem Part.engineReset_converter (p : Part) :
    (p.conv.state ≠ .rssi →
      p.engineReset.conv.state = p.conv.state ∧
      p.engineReset.conv.waiting = (if p.conv.waiting = some .battery then some .battery else none) ∧
      p.engineReset.lines = { p.lines.withMute true with txinh := false }) ∧
    (p.conv.state = .rssi →
      p.engineReset.conv.waiting = none ∧
      (p.conv.waiting ≠ some .battery → p.engineReset.conv.state = .idle ∧
        p.engineReset.lines = { p.lines.withMute true with txinh := false }) ∧
      (p.conv.waiting = some .battery → p.engineReset.conv.state = .battery true ∧
        p.engineReset.lines = { p.lines.withMute true with txinh := false, battTimer := some 1000 })) := by
  rw [Part.engineReset_eq]
  refine ⟨fun h => ?_, fun h => ?_⟩
  · rw [Part.stopRun_unheld h]
    rcases p.conv.waiting with _ | _ | _ <;> simp
  · rw [Part.stopRun_held h]
    split <;> simp_all [Lines.withMute]

theorem Part.takeReset_buffer (p : Part) : p.takeReset.link.buffer = p.link.buffer := by
  unfold Part.takeReset
  split
  · rw [Part.resetEngine_eq]
    split <;> simp [Part.engineReset]
  · rfl
  · rfl

/-- Settles O17: `Part.afterReset` is the part from which the transmitter or the waiting record goes on. -/
theorem resetTakesEffectWhenSent : Obligations.ResetTakesEffectWhenSent := by
  unfold Obligations.ResetTakesEffectWhenSent
  intro s bytes htx
  have hbuf : s.part.replySent.takeReset.link.buffer = s.part.link.buffer := Part.takeReset_buffer _
  refine ⟨fun hdue => ?_, fun hdue => ?_⟩
  · obtain ⟨hparams, htable, htuning, hsched, hengine, hsup, haff, hlines, hconv⟩ := Part.afterReset_blocks hdue
    have hlink := Part.afterReset_link hdue
    have hdriven : s.part.afterReset.outputsDriven = true :=
      (Part.outputsDriven_congr htuning haff hlines).trans (Part.driveOutputs_driven _)
    have hkeep : s.part.afterReset.link.tx = .idle ∧ s.part.afterReset.link.ltx = [true] ∧
        s.part.afterReset.link.reply = none ∧ s.part.afterReset.link.resetDue = none := by
      rw [hlink]
      dsimp only
      split <;> simp
    obtain ⟨hidle, hltx, hreply, hno⟩ := hkeep
    have hflag : s.part.afterReset.engine.stepFlag = false := by rw [hengine]; rfl
    have hslot (i : Nat) : s.part.afterReset.slotAt i = (s.part.slotAt i).bind SiteRecord.afterEngineReset := by
      refine Eq.trans ?_ (s.part.resetTaken.slotAt_engineReset i)
      simp only [Part.slotAt, htable]
    refine ⟨s.withPart s.part.afterReset,
      ⟨rfl, rfl, hreply, hidle, hltx, hno, recordSent_of_reset htx hbuf hreply hflag hdriven⟩, ?_⟩
    have hreads : s.part.resetTaken.engineReset.engine = Engine.atReset s.part.engine.watch0 s.part.engine.watch1 ∧
        s.part.resetTaken.engineReset.aff = Aff.atReset s.part.aff.identity s.part.aff.lastNumber ∧
        s.part.resetTaken.engineReset.sup = Sup.atReset s.part.params ∧
        s.part.resetTaken.engineReset.tuning = Tuning.atReset ∧
        s.part.resetTaken.engineReset.sched = Sched.atReset := ⟨rfl, rfl, rfl, rfl, rfl⟩
    obtain ⟨e1, e2, e3, e4, e5⟩ := hreads
    have hps : s.part.resetTaken.engineReset.params = s.part.params := by
      simp [Part.engineReset, Part.resetTaken, Part.replySent]
    obtain ⟨hc1, hc2⟩ := s.part.resetTaken.engineReset_converter
    simp only [State.withPart_part, hparams, hps, htuning, hsched, hengine, hsup, haff, hlines, hconv, e1, e2, e3, e4,
      e5, Engine.atReset, Aff.atReset, Sup.atReset, Tuning.atReset, Sched.atReset, TuningPins.low, true_and]
    exact ⟨fun i => (hslot i).trans (congrArg _ (funext SiteRecord.afterEngineReset_eq)), hc1, hc2, hlink⟩
  · have hall : s.part.replySent.takeReset = s.part.replySent.resetAll := by
      unfold Part.takeReset
      rw [show s.part.replySent.link.resetDue = some .all from hdue]
    have hafter : s.part.afterReset = { s.part.replySent.resetAll with link.buffer := none } := by
      rw [Part.afterReset, hall]
    have hdriven : s.part.afterReset.outputsDriven = true := by rw [hafter]; rfl
    refine ⟨s.withPart s.part.afterReset, s.part.replySent.resetWhole,
      ⟨rfl, rfl, by rw [State.withPart_part, hafter]; rfl, by rw [State.withPart_part, hafter]; rfl,
        by rw [State.withPart_part, hafter]; rfl, by rw [State.withPart_part, hafter]; rfl,
        recordSent_of_reset htx hbuf (by rw [hafter]; rfl) (by rw [hafter]; rfl) hdriven⟩,
      Part.resetWhole_asPoweredOn _, ?_⟩
    rw [State.withPart_part, hafter]
    rfl

end Sys2Proof.Machine
end

section
/-! SUPPORT. The operations of the converter and the tuning unit that reach neither the engine nor the link. -/

namespace Sys2Proof.Machine

/-- A gap but for its run of samples. -/
def Gap.form (g : Gap) : Gap := { g with run := ⟨0, 0, 0, 0, .waiting⟩ }

/-- What the converter and the tuning unit leave alone while no retry is answered: the link, the engine, the
supervision unit, and the gap in flight but for its run. -/
abbrev Part.Quiet (p q : Part) : Prop :=
  q.link = p.link ∧ q.freeCount = p.freeCount ∧ q.engine = p.engine ∧ q.sup = p.sup ∧
    q.sched.gap.map Gap.form = p.sched.gap.map Gap.form

/-- The gap in flight is a HOME gap by its form. -/
theorem Part.homeGap_congr {p q : Part} (h : q.sched.gap.map Gap.form = p.sched.gap.map Gap.form) :
    q.homeGap = p.homeGap := by
  unfold Part.homeGap
  cases hq : q.sched.gap <;> cases hp : p.sched.gap <;> simp_all [Gap.form]

/-! ### The converter -/

@[simp] theorem Part.mapRun_quiet (f : SampleRun → SampleRun) (p : Part) : p.Quiet (p.mapRun f) := by
  refine ⟨by simp, by simp, by simp, by simp, ?_⟩
  unfold Part.mapRun
  split
  · rfl
  · cases p.sched.gap <;> rfl

@[simp] theorem Part.takeRssi_quiet (p : Part) : p.Quiet p.takeRssi := by simp [Part.takeRssi, Part.Quiet]

@[simp] theorem Part.takeBattery_quiet (p : Part) : p.Quiet p.takeBattery := by simp [Part.takeBattery, Part.Quiet]

@[simp] theorem Part.waitConverter_quiet (user : ConvUser) (p : Part) : p.Quiet (p.waitConverter user) := by
  unfold Part.waitConverter; (repeat' split) <;> simp [Part.Quiet]

@[simp] theorem Part.askRssi_quiet (p : Part) : p.Quiet p.askRssi := by
  unfold Part.askRssi; split <;> simp [Part.Quiet]

@[simp] theorem Part.releaseConverter_quiet (p : Part) : p.Quiet p.releaseConverter := by
  unfold Part.releaseConverter; split <;> simp [Part.Quiet]

@[simp] theorem Part.stopRun_quiet (p : Part) : p.Quiet p.stopRun := by
  unfold Part.stopRun; dsimp only; (repeat' split) <;> simp [Part.Quiet]

@[simp] theorem Part.passFirstGap_quiet (p : Part) : p.Quiet p.passFirstGap := by
  unfold Part.passFirstGap; (repeat' split) <;> simp [Part.Quiet]

@[simp] theorem Part.discardBurst_quiet (p : Part) : p.Quiet p.discardBurst := by
  unfold Part.discardBurst; split <;> simp [Part.Quiet, Part.skipGaps]

/-! ### The tuning unit -/

@[simp] theorem Part.recomputePosition_quiet (p : Part) : p.Quiet p.recomputePosition := by
  unfold Part.recomputePosition; dsimp only; split <;> simp [Part.Quiet]

@[simp] theorem Part.startOp_quiet (owner : Owner) (req : TuneReq) (p : Part) : p.Quiet (p.startOp owner req) := by
  simp [Part.startOp, Part.Quiet]

@[simp] theorem Part.putWaiting_quiet (owner : Owner) (req : TuneReq) (p : Part) :
    p.Quiet (p.putWaiting owner req) := by
  unfold Part.putWaiting; split <;> simp [Part.Quiet]

@[simp] theorem Part.requestTune_quiet (owner : Owner) (req : TuneReq) (p : Part) :
    p.Quiet (p.requestTune owner req) := by
  unfold Part.requestTune; (repeat' split) <;> simp [Part.Quiet]

@[simp] theorem Part.requestReturn_quiet (owner : Owner) (p : Part) : p.Quiet (p.requestReturn owner) := by
  unfold Part.requestReturn; split <;> simp [Part.Quiet]

@[simp] theorem Part.serveClients_quiet (p : Part) : p.Quiet p.serveClients := by
  unfold Part.serveClients; split <;> simp [Part.Quiet]

@[simp] theorem Part.clearWaiting_quiet (owner : Owner) (p : Part) : p.Quiet (p.clearWaiting owner) := by
  unfold Part.clearWaiting; split <;> simp [Part.Quiet]

/-- A retry reaches the engine and the link, but neither the supervision unit nor the gap (R38). -/
@[simp] theorem Part.makeRetry_sup (p : Part) :
    p.makeRetry.sup = p.sup ∧ p.makeRetry.sched.gap.map Gap.form = p.sched.gap.map Gap.form := by
  unfold Part.makeRetry
  split
  · simp
  · unfold Part.engineReady; split <;> simp [Part.startRunning]

@[simp] theorem Part.freeReceiver_sup (p : Part) :
    p.freeReceiver.sup = p.sup ∧ p.freeReceiver.sched.gap.map Gap.form = p.sched.gap.map Gap.form := by
  unfold Part.freeReceiver; dsimp only; (repeat' split) <;> simp

@[simp] theorem Part.releaseReceiver_sup (owner : Owner) (p : Part) :
    (p.releaseReceiver owner).sup = p.sup ∧
      (p.releaseReceiver owner).sched.gap.map Gap.form = p.sched.gap.map Gap.form := by
  unfold Part.releaseReceiver; dsimp only; (repeat' split) <;> simp

theorem Part.freeReceiver_quiet {p : Part} (h : p.tuning.retryWaiting = false) : p.Quiet p.freeReceiver := by
  unfold Part.freeReceiver; simp [h, Part.Quiet]

@[simp] theorem Part.clearWaiting_retry (owner : Owner) (p : Part) :
    (p.clearWaiting owner).tuning.retryWaiting = p.tuning.retryWaiting := by
  unfold Part.clearWaiting; split <;> rfl

theorem Part.releaseReceiver_quiet {p : Part} (owner : Owner) (h : p.tuning.retryWaiting = false) :
    p.Quiet (p.releaseReceiver owner) := by
  have hf := Part.freeReceiver_quiet (p := p.clearWaiting owner) (by simpa using h)
  unfold Part.releaseReceiver; dsimp only; (repeat' split) <;> simp [Part.Quiet, hf]

/-! ### The tuning unit's own fields through a change of position -/

@[simp] theorem Part.discardBurst_tuning (p : Part) : p.discardBurst.tuning = p.tuning := by
  unfold Part.discardBurst
  split
  · have hp (q : Part) : q.passFirstGap.tuning = q.tuning := by
      unfold Part.passFirstGap; (repeat' split) <;> rfl
    simp [Part.skipGaps, hp]
  · rfl

theorem Part.recomputePosition_tuning (p : Part) :
    p.recomputePosition.tuning =
      { p.tuning with position := p.positionNow, fault := p.tuning.fault && p.positionNow == .away } := by
  unfold Part.recomputePosition
  dsimp only
  split <;> simp

end Sys2Proof.Machine
end

section
/-! SUPPORT. An air frame taken by AIR IN (R119), and the success of a handover by its GRANT (R128): the statement
O41. -/

namespace Sys2Proof.Machine

/-! ### A frame taken -/

/-- A frame that is taken gives the part its interpretation leaves, and the reply OK (R119). -/
theorem TakesFrame.taken {s : State} {tag : Byte} {args : List Byte} {f : AirFrame} (h : TakesFrame s tag args f) :
    exec (.airIn (tag :: args)) s =
      .next (s.withPart ((s.part.takeFrame f).placeReply ⟨0x90, tag, .ok, []⟩)) := by
  have ha : answerAirIn args s.part = (s.part.takeFrame f).ok [] := by
    simp [answerAirIn, h.short, h.long, h.parsed]
  show Host.Outcome.next (s.withPart (s.part.command 0x10 (tag :: args) answerAirIn)) = _
  rw [Part.command_of_hears h.heard h.tagged, ha]
  rfl

/-- A frame whose interpretation leaves the STEP round live and the outputs driven. -/
theorem TakesFrame.replied {s : State} {tag : Byte} {args : List Byte} {f : AirFrame} (h : TakesFrame s tag args f)
    {q : Part} (hq : s.part.takeFrame f = q) (h1 : q.stepRoundLive = true) (h2 : q.outputsDriven = true) :
    exec (.airIn (tag :: args)) s = .next (s.withPart (q.replied ⟨0x90, tag, .ok, []⟩)) := by
  rw [h.taken, hq, Part.placeReply_eq _ h1 h2]

theorem Part.ownUnit_of {p : Part} {unit : Nat} (h : p.aff.identity.map Identity.unit = some unit) :
    p.ownUnit unit = true := by
  simp [Part.ownUnit, h]

/-! ### The old serving record -/

@[simp] theorem Part.makeOrdinary_blocks (old : Option Nat) (p : Part) :
    (p.makeOrdinary old).tuning = p.tuning ∧ (p.makeOrdinary old).sched = p.sched ∧
      (p.makeOrdinary old).engine = p.engine ∧ (p.makeOrdinary old).sup = p.sup ∧ (p.makeOrdinary old).aff = p.aff ∧
      (p.makeOrdinary old).lines = p.lines ∧ (p.makeOrdinary old).conv = p.conv ∧
      (p.makeOrdinary old).link = p.link ∧ (p.makeOrdinary old).freeCount = p.freeCount := by
  unfold Part.makeOrdinary; split <;> simp [Part.unconfirmOthers]

@[simp] theorem Part.leaveOld_blocks (old : Option Nat) (cause : Cause) (p : Part) :
    (p.leaveOld old cause).tuning = p.tuning ∧ (p.leaveOld old cause).sched = p.sched ∧
      (p.leaveOld old cause).engine = p.engine ∧ (p.leaveOld old cause).sup = p.sup ∧
      (p.leaveOld old cause).aff = p.aff ∧ (p.leaveOld old cause).lines = p.lines ∧
      (p.leaveOld old cause).conv = p.conv ∧ (p.leaveOld old cause).link = p.link ∧
      (p.leaveOld old cause).freeCount = p.freeCount := by
  unfold Part.leaveOld; split <;> simp

/-- A slot after the others of a channel lose their confirmation (R13, R15). -/
theorem Part.slotAt_unconfirmOthers (channel site : Nat) (p : Part) (i : Nat) :
    (p.unconfirmOthers channel site).slotAt i = (p.slotAt i).map (fun r =>
      if r.channel = channel ∧ r.site ≠ site ∧ p.aff.serving ≠ some r.site then { r with confirm := none } else r) := by
  unfold Part.unconfirmOthers
  rw [Part.slotAt_mapRecords]
  simp only [Bool.and_eq_true, beq_iff_eq, bne_iff_ne, ne_eq, and_assoc]

/-- A slot after the old serving record has become ordinary (R15), by the channel of that record. -/
theorem Part.slotAt_makeOrdinary (old : Nat) (p : Part) (i : Nat) :
    (p.makeOrdinary (some old)).slotAt i = (p.slotAt i).map (fun r =>
      if (p.record old).map SiteRecord.channel = some r.channel ∧ r.site ≠ old ∧ p.aff.serving ≠ some r.site then
        { r with confirm := none } else r) := by
  unfold Part.makeOrdinary
  cases h : p.record old with
  | none => simp [h]
  | some q =>
    have hq := (Part.record_some h).2
    simp only [Option.bind_some, h, Part.slotAt_unconfirmOthers, hq, Option.map_some, Option.some.injEq, eq_comm]

/-- The bar a GRANT leaves on the old serving record (R128). -/
theorem SiteRecord.leaveServing_eq (cause : Cause) (ps : Params) (r : SiteRecord) :
    r.leaveServing cause ps =
      if r.blocked = true then r
      else if cause = .directed then
        { r with bar := if ps.directHold = 0 then r.bar else some ⟨.hold, ps.directHold⟩ }
      else { r with bar := if ps.returnBar = 0 then r.bar else some ⟨.ret, ps.returnBar⟩ } := by
  unfold SiteRecord.leaveServing SiteRecord.setBar
  (repeat' split) <;> rfl

/-- The slots after a success, by what the part held before it (R15, R128). -/
theorem Part.slotAt_leaveOld {p q : Part} (hq : q.table = p.table) {target : Nat}
    (hs : q.aff.serving = some target) (cause : Cause) (i : Nat) :
    (q.leaveOld p.aff.serving cause).slotAt i = (p.slotAt i).map (fun r =>
      if p.aff.serving = some r.site then r.leaveServing cause q.params
      else if p.servingChannel = some r.channel ∧ r.site ≠ target then { r with confirm := none }
      else r) := by
  have hslot : q.slotAt i = p.slotAt i := by simp only [Part.slotAt, hq]
  have hrec (x : Nat) : q.record x = p.record x := by simp only [Part.record, Part.find, Part.occupied, hq]
  cases hold : p.aff.serving with
  | none => simp [Part.leaveOld, Part.servingChannel, hold, hslot]
  | some old =>
    simp only [Part.leaveOld, Part.slotAt_updateRec, Part.slotAt_makeOrdinary, hslot, hrec, hs, Part.servingChannel, hold,
      Option.map_map]
    congr 1
    funext r
    simp only [Function.comp_apply, ne_eq, Option.some.injEq]
    by_cases hr : r.site = old
    · simp [hr]
    · have hr' : ¬ old = r.site := fun e => hr e.symm
      have hcomm : target = r.site ↔ r.site = target := eq_comm
      simp only [hr, hr', not_false_eq_true, true_and, hcomm, if_false]
      split <;> simp

/-! ### The success -/

/-- Supervision started afresh on a class (R102, R104, R114). -/
theorem Part.supRestart_eq (cls : Option Nat) (p : Part) :
    p.supRestart cls =
      { p with
        sup :=
          { active := true, state := .healthy, cls := cls, timer := some (intervalMs (cls.getD 0)),
            fine := p.params.fadeCount, coarse := p.params.lostCount, excuse := false,
            pttNoted := p.active .ptt, gapNoted := p.homeGap } } := rfl

/-- The target in its place: it serves, the old serving record is left, and the position recomputed (R28, R128). -/
def Part.seated (ctx : Context) (slot : Option Nat) (sense : Sense) (p : Part) : Part :=
  (({ p with
    aff.hoTimer := none, aff.registerDue := false, aff.serving := some ctx.target, aff.slot := slot,
    aff.sense := some sense } : Part).leaveOld p.aff.serving ctx.cause).recomputePosition

/-- A handover that succeeds, before the receiver is released: the target in its place, the machine at rest and
supervision started afresh (R114, R128). -/
def Part.granted (ctx : Context) (slot : Option Nat) (sense : Sense) (p : Part) : Part :=
  { ((p.seated ctx slot sense).setMachine .registered).supRestart ctx.cls with aff.ctx := none }

theorem Part.succeedHandover_eq (ctx : Context) (slot : Option Nat) (sense : Sense) (p : Part) :
    p.succeedHandover ctx slot sense =
      { (((p.granted ctx slot sense).releaseReceiver .affiliation).queueNotice
          (.roamed (p.aff.serving.getD 0) ctx.target ctx.cause)) with
        engine.holdoff := p.params.holdoff, engine.releaseOwed := false } := by
  have hp : (((p.granted ctx slot sense).releaseReceiver .affiliation).queueNotice
      (.roamed (p.aff.serving.getD 0) ctx.target ctx.cause)).params = p.params := by
    simp [Part.granted, Part.seated]
  rw [← hp]
  rfl

theorem Part.seated_blocks (ctx : Context) (slot : Option Nat) (sense : Sense) (p : Part) :
    (p.seated ctx slot sense).aff =
      { p.aff with
        serving := some ctx.target, slot := slot, sense := some sense, hoTimer := none, registerDue := false } ∧
    (p.seated ctx slot sense).params = p.params ∧ (p.seated ctx slot sense).link = p.link ∧
    (p.seated ctx slot sense).engine = p.engine ∧ (p.seated ctx slot sense).lines.ptt = p.lines.ptt ∧
    (p.seated ctx slot sense).homeGap = p.homeGap ∧
    (p.seated ctx slot sense).tuning.retryWaiting = p.tuning.retryWaiting := by
  refine ⟨?_, ?_, ?_, ?_, ?_, Part.homeGap_congr ?_, ?_⟩ <;> simp [Part.seated, Part.recomputePosition_tuning]

/-- What of a part whose handover has succeeded does not rest on the tuner (R114, R128). -/
theorem Part.granted_blocks (ctx : Context) (slot : Option Nat) (sense : Sense) (p : Part) :
    (p.granted ctx slot sense).aff =
      { p.aff with
        serving := some ctx.target, slot := slot, sense := some sense, machine := .registered, ctx := none,
        hoTimer := none, registerDue := false } ∧
    (p.granted ctx slot sense).sup =
      { active := true, state := .healthy, cls := ctx.cls, timer := some (intervalMs (ctx.cls.getD 0)),
        fine := p.params.fadeCount, coarse := p.params.lostCount, excuse := false,
        pttNoted := p.active .ptt, gapNoted := p.homeGap } ∧
    (p.granted ctx slot sense).link = p.link ∧ (p.granted ctx slot sense).engine = p.engine ∧
    (p.granted ctx slot sense).tuning.retryWaiting = p.tuning.retryWaiting := by
  obtain ⟨h1, h2, h3, h4, h5, h6, h7⟩ := p.seated_blocks ctx slot sense
  have hgap : ((p.seated ctx slot sense).setMachine .registered).homeGap = p.homeGap := h6
  have hptt : ((p.seated ctx slot sense).setMachine .registered).active .ptt = p.active .ptt := by
    simp only [Part.active, Lines.get, Part.setMachine_keeps, h5]
  unfold Part.granted
  simp only [Part.supRestart_eq, Part.setMachine_aff, Part.setMachine_link, Part.setMachine_engine,
    Part.setMachine_tuning, Part.setMachine_params, hgap, hptt, h1, h2, h3, h4, h7, and_self]

/-- The slots of a part whose handover has succeeded (R15, R128). -/
theorem Part.slotAt_granted (ctx : Context) (slot : Option Nat) (sense : Sense) (p : Part) (i : Nat) :
    (p.granted ctx slot sense).slotAt i = (p.slotAt i).map (fun r =>
      if p.aff.serving = some r.site then r.leaveServing ctx.cause p.params
      else if p.servingChannel = some r.channel ∧ r.site ≠ ctx.target then { r with confirm := none }
      else r) := by
  rw [← Part.slotAt_leaveOld (p := p) (target := ctx.target) (q := { p with
    aff.hoTimer := none, aff.registerDue := false, aff.serving := some ctx.target, aff.slot := slot,
    aff.sense := some sense }) rfl rfl ctx.cause i]
  simp only [Part.slotAt, Part.granted, Part.supRestart_eq, Part.setMachine_table, Part.seated,
    Part.recomputePosition_stays]

/-! ### The tuner at a success -/

/-- The outputs of the lines, written out (R39, R117). -/
theorem Part.driveOutputs_lines (p : Part) :
    p.driveOutputs.lines =
      { p.lines.withMute (!(p.tuning.position == .home && p.aff.machine == .registered && p.aff.serving.isSome)) with
        txinh := !p.aff.machine.atRest } := by
  simp only [Part.driveOutputs, Lines.withMute, eq_comm]

/-- A position that is HOME discards no burst (R28, R44). -/
theorem Part.recomputePosition_home {p : Part} (h : p.positionNow = .home) :
    p.recomputePosition = ({ p with tuning.position := .home, tuning.fault := false } : Part).driveOutputs := by
  have hno : (Position.home == Position.away) = false := rfl
  unfold Part.recomputePosition
  simp [h, hno]

/-- With the receiver on its channel the new serving site is HOME at once; the outputs wait for the machine's rest. -/
theorem Part.seated_home {p : Part} {ctx : Context} {r : SiteRecord} (slot : Option Nat) (sense : Sense)
    (hr : p.record ctx.target = some r) (ht : p.tuning.tuned = some r.channel) (hd : p.outputsDriven = true)
    (hm : p.aff.machine = .hoSend ∨ p.aff.machine = .hoGrant) :
    (p.seated ctx slot sense).tuning = { p.tuning with position := .home, fault := false } ∧
      (p.seated ctx slot sense).lines = p.lines := by
  let q : Part := { p with
    aff.hoTimer := none, aff.registerDue := false, aff.serving := some ctx.target, aff.slot := slot,
    aff.sense := some sense }
  have hchan : (q.leaveOld p.aff.serving ctx.cause).servingChannel = some r.channel := by
    rw [(q.leaveOld_places p.aff.serving ctx.cause).servingChannel (by simp)]
    show (p.record ctx.target).map SiteRecord.channel = _
    rw [hr]; rfl
  have hnow : (q.leaveOld p.aff.serving ctx.cause).positionNow = .home := by
    unfold Part.positionNow
    simp [hchan, q, ht]
  have hs : p.seated ctx slot sense = _ := Part.recomputePosition_home hnow
  rw [hs]
  refine ⟨by simp, ?_⟩
  simp only [Part.outputsDriven, Bool.and_eq_true, beq_iff_eq] at hd
  obtain ⟨h1, h2⟩ := hd
  have hnot : (p.aff.machine == .registered) = false := by rcases hm with h | h <;> simp [h]
  rw [Part.driveOutputs_lines]
  simp only [Part.leaveOld_blocks, hnot, Bool.and_false, Bool.false_and, Bool.not_false, Lines.withMute] at h1 ⊢
  rw [← h1, ← h2]
  simp

/-- A receiver with no operation and nothing waiting becomes free when its holder releases it (R34). -/
theorem Part.releaseReceiver_idle {p : Part} (ho : p.tuning.op = none) (hw : p.tuning.waitSched = none)
    (ha : p.tuning.waitAff = none) (hr : p.tuning.retryWaiting = false) :
    p.releaseReceiver .affiliation =
      { p with tuning.holder := if p.tuning.holder = some .affiliation then none else p.tuning.holder } := by
  have hc : p.clearWaiting .affiliation = p := by
    show { p with tuning.waitAff := none } = p
    rw [← ha]
  unfold Part.releaseReceiver
  simp only [hc, ho]
  split
  · rw [Part.freeReceiver]
    simp [hr, Part.serveClients, ha, hw]
  · rw [← ho]

/-- The end of an interpretation with a busy transmitter and no STEP round to end. -/
theorem Part.placeReply_link {p : Part} (r : Reply) (h : p.stepRoundLive = true) (ht : p.link.tx ≠ .idle) :
    (p.placeReply r).link = { p.link with buffer := none, reply := some r } := by
  unfold Part.placeReply Part.finish
  rw [Part.endStepRound_of_live (by exact h), Part.startSending_of_fed (by simp [Part.transmitterFed, ht])]
  rfl

theorem Part.placeReply_txinh (r : Reply) (p : Part) : (p.placeReply r).lines.txinh = !p.aff.machine.atRest := by
  have h : (p.placeReply r).lines.txinh = !(p.placeReply r).aff.machine.atRest := rfl
  rw [h, (Part.placeReply_blocks r p).2.2.2.2.1]

/-- The part of a success on the target's own channel: HOME, with MUTE and TXINH released (R39, R128). -/
theorem Part.succeedHandover_home {p : Part} {ctx : Context} {r : SiteRecord} (slot : Option Nat) (sense : Sense)
    (hr : p.record ctx.target = some r) (ht : p.tuning.tuned = some r.channel) (hd : p.outputsDriven = true)
    (hm : p.aff.machine = .hoSend ∨ p.aff.machine = .hoGrant) (ho : p.tuning.op = none)
    (hw : p.tuning.waitSched = none) (ha : p.tuning.waitAff = none) (hretry : p.tuning.retryWaiting = false) :
    (p.succeedHandover ctx slot sense).tuning.position = .home ∧
      (p.succeedHandover ctx slot sense).outputsDriven = true ∧
      (p.succeedHandover ctx slot sense).lines = { p.lines.withMute false with txinh := false } := by
  obtain ⟨h1, h2⟩ := Part.seated_home slot sense hr ht hd hm
  obtain ⟨haff, -⟩ := p.seated_blocks ctx slot sense
  have htun : (p.granted ctx slot sense).tuning = { p.tuning with position := .home, fault := false } := by
    rw [← h1]; rfl
  have hlines : (p.granted ctx slot sense).lines = { p.lines.withMute false with txinh := false } := by
    show ((p.seated ctx slot sense).setMachine .registered).lines = _
    rw [Part.setMachine, Part.driveOutputs_lines]
    simp [h1, h2, haff, HoState.atRest]
  have hdriven : (p.granted ctx slot sense).outputsDriven = true :=
    Part.driveOutputs_driven ({ p.seated ctx slot sense with aff.machine := .registered } : Part)
  have hrel := Part.releaseReceiver_idle (p := p.granted ctx slot sense) (by simp [htun, ho]) (by simp [htun, hw])
    (by simp [htun, ha]) (by simp [htun, hretry])
  rw [Part.succeedHandover_eq, hrel]
  refine ⟨by simp [htun], ?_, by simp [hlines]⟩
  simpa [Part.outputsDriven] using hdriven

/-- Settles O41: the GRANT's interpretation is `Part.succeedHandover`, read block by block. -/
theorem grantMakesTheTargetServing : Obligations.GrantMakesTheTargetServing := by
  unfold Obligations.GrantMakesTheTargetServing
  intro s tag args site unit k slot sense ctx hf hunit hctx hsite hcls hm hserving
  subst hsite
  have hframe : s.part.takeFrame (.grant ctx.target unit slot sense) = s.part.succeedHandover ctx slot sense := by
    have ha : s.part.answering ctx.target = some ctx := by
      unfold Part.answering
      rcases hm with h | h <;> simp [hctx, h]
    simp [Part.takeFrame, Part.ownUnit_of hunit, ha]
  obtain ⟨haff, hsup, hlink, hengine, hretry⟩ := s.part.granted_blocks ctx slot sense
  have heq := s.part.succeedHandover_eq ctx slot sense
  have hsaff : (s.part.succeedHandover ctx slot sense).aff = (s.part.granted ctx slot sense).aff := by
    rw [heq]; simp
  have hsparams : (s.part.succeedHandover ctx slot sense).params = s.part.params := by simp
  refine ⟨_, hf.taken, ?_⟩
  rw [hframe]
  simp only [State.withPart_part, Part.placeReply_reply, Part.placeReply_blocks, hsaff, haff, hsparams, true_and]
  refine ⟨?_, ?_, ?_, fun i => ?_, ?_, fun r hr ht ho hw ha hretry => ?_, fun hstep hretry htx hlen hen => ?_⟩
  · rw [heq]
    simp [hsup, hcls, intervalMs]
  · rw [heq]
  · rw [heq]
  · have hslot := s.part.slotAt_granted ctx slot sense i
    simp only [SiteRecord.leaveServing_eq] at hslot
    rw [← hslot]
    simp only [Part.slotAt, Part.placeReply_blocks]
    rw [heq]
    simp
  · rw [Part.placeReply_txinh, hsaff, haff]
    rfl
  · obtain ⟨h1, h2, h3⟩ := Part.succeedHandover_home slot sense hr ht (Part.hears_driven hf.heard) hm ho hw ha hretry
    exact ⟨h1, (Part.placeReply_lines _ h2).trans h3⟩
  · have hquiet := Part.releaseReceiver_quiet (p := s.part.granted ctx slot sense) .affiliation (by simp_all)
    have hlive : (s.part.succeedHandover ctx slot sense).stepRoundLive = true := by
      have : (s.part.succeedHandover ctx slot sense).engine.stepFlag = false := by
        rw [heq]; simp [hquiet, hengine, hstep]
      simp [Part.stepRoundLive, this]
    have hlk : (s.part.succeedHandover ctx slot sense).link =
        { s.part.link with
          notices := s.part.link.notices ++
            [⟨.roamed (s.part.aff.serving.getD 0) ctx.target ctx.cause, s.part.link.lost⟩]
          lost := false } := by
      have hl : ((s.part.granted ctx slot sense).releaseReceiver .affiliation).link = s.part.link :=
        hquiet.1.trans hlink
      rw [heq, Part.queueNotice_room (by rw [hl]; exact hen) (by rw [hl]; exact hlen), hl]
    rw [Part.placeReply_link _ hlive (by rw [hlk]; exact htx), hlk]
    exact ⟨rfl, rfl⟩

end Sys2Proof.Machine
end

section
/-! SUPPORT. A beacon's table writes with no watch set (R7, R13, R14), and the REGISTERs of a handover (R126): the
statement O44. -/

namespace Sys2Proof.Machine

/-! ### Beacon writes with no watch set -/

theorem Part.offerWrite_unset {p : Part} (h0 : p.engine.watch0 = none) (h1 : p.engine.watch1 = none) (site : Nat)
    (source : WriteSource) : p.offerWrite site source = p := by
  simp [Part.offerWrite, Part.offerSlot, h0, h1]

/-- The table of a confirmation that is not held is the one the statements name (R7, R13). -/
theorem Part.confirmFromBeacon_table {p : Part} {b : Beacon} {r : SiteRecord} (hs : r.site = b.site)
    (hc : r.channel = b.channel) (hh : p.confirmHeld r = false) :
    (p.confirmFromBeacon r b.load).table = p.confirmedBy b := by
  unfold Part.confirmFromBeacon
  simp only [hh, hs, hc, Part.offerWrite_unwatched, Part.unconfirmOthers, Part.updateRec, Part.mapRecords,
    List.map_map, Part.confirmedBy, Bool.false_eq_true, if_false]
  congr 1
  funext o
  cases o with
  | none => rfl
  | some q =>
    simp only [Function.comp_apply, Option.map_some, Option.some.injEq, beq_iff_eq, Bool.and_eq_true, bne_iff_ne, ne_eq]
    by_cases hq : q.site = b.site
    · simp [hq]
    · by_cases hch : q.channel = b.channel <;> by_cases hv : p.aff.serving = some q.site <;> simp [hq, hch, hv]

/-- With no watch set a beacon of a record on its channel changes the table alone. -/
theorem Part.beaconWrites_confirmed {p : Part} {b : Beacon} {r : SiteRecord} (hr : p.record b.site = some r)
    (hc : r.channel = b.channel) (hh : p.confirmHeld r = false) (h0 : p.engine.watch0 = none)
    (h1 : p.engine.watch1 = none) : p.beaconWrites b = { p with table := p.confirmedBy b } := by
  have ht := Part.confirmFromBeacon_table (p := p) (Part.record_some hr).2 hc hh
  have hw : p.beaconWrites b = p.confirmFromBeacon r b.load := by simp [Part.beaconWrites, hr, hc]
  rw [hw, ← ht]
  unfold Part.confirmFromBeacon
  simp only [hh, Bool.false_eq_true, if_false]
  rw [Part.offerWrite_unset (by simpa [Part.unconfirmOthers] using h0) (by simpa [Part.unconfirmOthers] using h1)]
  rfl

/-- The record of the target is confirmed at any time (R14). -/
theorem Part.confirmHeld_target {p : Part} {r : SiteRecord} (h : p.target = some r.site) : p.confirmHeld r = false := by
  simp [Part.confirmHeld, h]

/-- Every record is confirmed while the machine is at rest (R14). -/
theorem Part.confirmHeld_atRest {p : Part} (r : SiteRecord) (h : p.aff.machine.atRest = true) :
    p.confirmHeld r = false := by
  simp [Part.confirmHeld, h]

/-! ### The REGISTER of a handover -/

/-- The part with the REGISTER of a handover issued in HO_SEND (R123, R126). -/
def Part.registerIssued (ctx : Context) (q : Part) : Part :=
  let frame : AirFrame := .register ctx.target ((q.aff.identity.map Identity.unit).getD 0)
    ((q.aff.identity.map Identity.group).getD 0) (q.aff.serving.getD 0) (q.active .emerg)
  let number := if q.aff.lastNumber < 255 then q.aff.lastNumber + 1 else 1
  ({ q with
    aff.machine := .hoSend
    aff.hoTimer := none
    aff.registerDue := false
    aff.ctx := some { ctx with attempts := ctx.attempts + 1 }
    aff.tx := some ⟨.register, frame, 0, number⟩
    aff.txTimer := some q.params.txWaitMs
    aff.lastNumber := number } : Part).queueNotice (.transmit number 0 frame)

/-- HO_SEND issues its REGISTER at once with no request outstanding. -/
theorem Part.enterSend_free {p : Part} (ctx : Context) (h : p.aff.tx = none) :
    p.enterSend ctx = p.registerIssued ctx := by
  simp only [Part.enterSend, h, Option.isNone_none, if_true]
  rfl

/-- With a request outstanding the REGISTER waits. -/
theorem Part.enterSend_busy {p : Part} (ctx : Context) (h : p.aff.tx.isSome = true) :
    p.enterSend ctx =
      { p with aff.machine := .hoSend, aff.hoTimer := none, aff.ctx := some ctx, aff.registerDue := true } := by
  have hn : p.aff.tx.isNone = false := by simp [h]
  simp only [Part.enterSend, hn, Bool.false_eq_true, if_false]

/-- A change of the affiliation controller that keeps the context's part in a STEP round keeps the round live. -/
theorem Part.live_congr {p q : Part} (hlive : p.stepRoundLive = true) (he : q.engine.stepFlag = p.engine.stepFlag)
    (hw : q.sched.work = p.sched.work)
    (hc : (q.aff.ctx.map Context.inStep).getD false = (p.aff.ctx.map Context.inStep).getD false) :
    q.stepRoundLive = true := by
  simpa only [Part.stepRoundLive, he, hw, hc] using hlive

/-- Outputs stand through a change among the states away from rest (R116). -/
theorem Part.outputsDriven_away {p q : Part} (ht : q.tuning = p.tuning) (hl : q.lines = p.lines)
    (hp : p.aff.machine.atRest = false) (hq : q.aff.machine.atRest = false) (hd : p.outputsDriven = true) :
    q.outputsDriven = true := by
  have hne (m : HoState) (h : m.atRest = false) : (m == .registered) = false := by cases m <;> simp_all [HoState.atRest]
  simp only [Part.outputsDriven, ht, hl, hne _ hp, hne _ hq, hp, hq] at hd ⊢
  simpa using hd

/-- What every step keeps, kept by a REGISTER that is issued. -/
theorem Part.registerIssued_settled {p : Part} {ctx c : Context} (hc : p.aff.ctx = some c) (hi : ctx.inStep = c.inStep)
    (hm : p.aff.machine.atRest = false) (hlive : p.stepRoundLive = true) (hd : p.outputsDriven = true) :
    (p.registerIssued ctx).stepRoundLive = true ∧ (p.registerIssued ctx).outputsDriven = true :=
  ⟨Part.live_of_queueNotice (Part.live_congr hlive rfl rfl (by simp [hc, hi])),
    Part.driven_of_queueNotice (Part.outputsDriven_away (p := p) rfl rfl hm rfl hd)⟩

/-- The target's beacon in HO_LISTEN goes to the controller, with no watch and no gap (R121, R126). -/
theorem Part.takeBeacon_target {p : Part} {b : Beacon} {r : SiteRecord} {ctx : Context} (hctx : p.aff.ctx = some ctx)
    (hm : p.aff.machine = .hoListen) (hs : b.site = ctx.target) (ha : b.accepting = true)
    (ht : p.tuning.tuned = some b.channel) (hr : p.record b.site = some r) (hc : r.channel = b.channel)
    (hg : p.sched.gap = none) (h0 : p.engine.watch0 = none) (h1 : p.engine.watch1 = none) :
    p.takeFrame (.beacon b) = ({ p with table := p.confirmedBy b } : Part).enterSend { ctx with cls := some b.cls } := by
  have htarget : p.target = some r.site := by
    simp [Part.target, hm, hctx, (Part.record_some hr).2, hs]
  have hw := Part.beaconWrites_confirmed hr hc (Part.confirmHeld_target htarget) h0 h1
  simp only [Part.takeFrame, Part.takeBeacon, ht, if_true, hw]
  simp [Part.handOnBeacon, hm, Part.openGap, hg, hctx, hs, Part.targetBeacon, ha]

/-- An answer that ends NOT_SENT leaves the REGISTER that waits to be issued (R124, R126). -/
theorem Part.endTx_answer {p : Part} {tx : TxReq} {ctx : Context} (hk : tx.kind = .rollAnswer ∨ tx.kind = .statusReport)
    (hctx : p.aff.ctx = some ctx) (hm : p.aff.machine = .hoSend) (ht : p.aff.hoTimer = none)
    (hd : p.aff.registerDue = true) : p.endTx tx .notSent = p.registerIssued ctx := by
  have he : p.endTx tx .notSent = ({ p with aff.tx := none, aff.txTimer := none } : Part).issueWaiting := by
    unfold Part.endTx
    rcases hk with h | h <;> simp [h, Part.reportEnded]
  rw [he]
  simp only [Part.issueWaiting, hd, hctx, Option.isSome_none, Bool.false_eq_true, if_false, if_true]
  unfold Part.issueRegister Part.issueTx Part.registerIssued
  rw [← hm, ← ht]
  rfl

/-- Settles O44: each of the three ways ends in `Part.registerIssued`, or in the REGISTER's wait. -/
theorem handoverIssuesRegisters : Obligations.HandoverIssuesRegisters := by
  unfold Obligations.HandoverIssuesRegisters
  refine ⟨fun s ctx hs hctx hm ht hlt htx => ?_,
    fun s tag args b r ctx hf hctx hm hsite ha htuned hr hc hg h0 h1 => ⟨fun htx => ?_, fun htx => ?_⟩,
    fun s tx ctx hs htx htimer hk hctx hm ht hd => ?_⟩
  · have hstep : s.part.grantWaitExpiry = s.part.registerIssued ctx := by
      simp only [Part.grantWaitExpiry, hctx, hlt, if_true, Part.enterSend_free ctx htx]
    obtain ⟨h1, h2⟩ := Part.registerIssued_settled hctx rfl (by rw [hm]; rfl) (Part.live_of_settled hs)
      (Part.driven_of_settled hs)
    show execGrantWaitExpiry s = _
    rw [execGrantWaitExpiry, if_pos (by simp [Aff.timerIs, ht]), hstep, Part.finish_of_live h1 h2]
    rfl
  · have htake := Part.takeBeacon_target hctx hm hsite ha htuned hr hc hg h0 h1
    rw [Part.enterSend_free _ (by exact htx)] at htake
    obtain ⟨h1, h2⟩ := Part.registerIssued_settled (p := { s.part with table := s.part.confirmedBy b })
      (ctx := { ctx with cls := some b.cls }) hctx rfl (by simp [hm, HoState.atRest]) (Part.hears_live hf.heard)
      (Part.hears_driven hf.heard)
    exact hf.replied htake h1 h2
  · have htake := Part.takeBeacon_target hctx hm hsite ha htuned hr hc hg h0 h1
    rw [Part.enterSend_busy _ (by exact htx)] at htake
    refine hf.replied htake ?_ ?_
    · exact Part.live_congr (Part.hears_live hf.heard) rfl rfl (by simp [hctx])
    · exact Part.outputsDriven_away (p := s.part) rfl rfl (by rw [hm]; rfl) rfl (Part.hears_driven hf.heard)
  · have hstep := Part.endTx_answer hk hctx hm ht hd
    obtain ⟨h1, h2⟩ := Part.registerIssued_settled hctx rfl (by rw [hm]; rfl) (Part.live_of_settled hs)
      (Part.driven_of_settled hs)
    show execTxWaitExpiry s = _
    simp only [execTxWaitExpiry, htx, htimer, if_true, hstep, Part.finish_of_live h1 h2]
    rfl

end Sys2Proof.Machine
end

section
/-! SUPPORT. The orders of the serving site: DIRECT (R134) and RELEASE (R136), the statement O49. -/

namespace Sys2Proof.Machine

/-! ### Notices and the link -/

/-- What a notice makes of the link rests on the link and the count of free values alone. -/
theorem Part.queueNotice_link_congr {p q : Part} (hl : q.link = p.link) (hf : q.freeCount = p.freeCount) (n : Notice) :
    (q.queueNotice n).link = (p.queueNotice n).link ∧ (q.queueNotice n).freeCount = (p.queueNotice n).freeCount := by
  unfold Part.queueNotice
  simp only [hl, hf]
  split_ifs <;> exact ⟨by simp [hl], by simp [hf]⟩

/-- A notice that is queued and a release that is owed come to the same in either order. -/
theorem Part.queueNotice_releaseOwed (p : Part) (n : Notice) :
    { p.queueNotice n with engine.releaseOwed := true } =
      ({ p with engine.releaseOwed := true } : Part).queueNotice n := by
  unfold Part.queueNotice
  dsimp only
  split_ifs <;> rfl

/-! ### The orders taken -/

theorem Part.fromServing_of {p : Part} {site : Nat} (hs : p.aff.serving = some site) (hm : p.aff.machine = .registered)
    (hp : p.tuning.position = .home) : p.fromServing site = true := by
  simp [Part.fromServing, hs, hm, hp]

theorem Part.addressed_of {p : Part} {kind : AddressKind} {address : Nat}
    (h : (match kind with
      | .unit => p.aff.identity.map Identity.unit
      | .group => p.aff.identity.map Identity.group) = some address) : p.addressed kind address = true := by
  cases kind with
  | unit => exact Part.ownUnit_of h
  | group => simp only [Part.addressed, beq_iff_eq]; exact h

theorem Part.takeFrame_direct {p : Part} {site address target channel : Nat} {kind : AddressKind}
    (ha : p.addressed kind address = true) (hs : p.fromServing site = true) :
    p.takeFrame (.direct site kind address target channel) = p.direct target channel := by
  simp [Part.takeFrame, ha, hs]

/-! ### A DIRECT, check by check (R134) -/

theorem Part.direct_busy {p : Part} (target channel : Nat) (h : p.aff.ctx.isSome = true ∨ p.aff.signingOff = true) :
    p.direct target channel = p.refuseDirect target .busy := by
  simp [Part.direct, h]

theorem Part.direct_fixed {p : Part} (target channel : Nat) (h : ¬ (p.aff.ctx.isSome = true ∨ p.aff.signingOff = true))
    (hm : p.params.mode = .fixed) : p.direct target channel = p.refuseDirect target .modeFixed := by
  simp [Part.direct, h, hm]

/-- The conditions of R134 up to the target's own record. -/
structure Part.OpenTo (p : Part) : Prop where
  free : ¬ (p.aff.ctx.isSome = true ∨ p.aff.signingOff = true)
  auto : p.params.mode ≠ .fixed

theorem Part.direct_serving {p : Part} {target : Nat} (channel : Nat) (h : p.OpenTo) (hs : p.aff.serving = some target) :
    p.direct target channel = p := by
  simp [Part.direct, h.free, h.auto, hs]

theorem Part.direct_learned {p q : Part} {target channel : Nat} (h : p.OpenTo) (hs : p.aff.serving ≠ some target)
    (hr : p.record target = none) (hl : p.learn target channel .direct [] = some q) :
    p.direct target channel = q.refuseDirect target .unconfirmed := by
  simp [Part.direct, h.free, h.auto, hs, hr, hl]

theorem Part.direct_forgone {p : Part} {target channel : Nat} (h : p.OpenTo) (hs : p.aff.serving ≠ some target)
    (hr : p.record target = none) (hl : p.learn target channel .direct [] = none) :
    p.direct target channel = p.refuseDirect target .unknown := by
  simp [Part.direct, h.free, h.auto, hs, hr, hl]

/-- A level that a directed move may go to (R134). -/
def SiteRecord.strong (min : Nat) (r : SiteRecord) : Prop := ∃ l, r.level = some l ∧ min ≤ l.f16 / 16

theorem SiteRecord.strong_iff (min : Nat) (r : SiteRecord) :
    ((r.q.map (fun q => decide (min ≤ q))).getD false) = true ↔ r.strong min := by
  unfold SiteRecord.strong SiteRecord.q
  cases r.level <;> simp [Level.q]

/-- A DIRECT to a known target other than the serving site, with what the select check of R98 answers. -/
theorem Part.direct_known {p q : Part} {target : Nat} {r : SiteRecord} {passes : Bool} (channel : Nat) (h : p.OpenTo)
    (hs : p.aff.serving ≠ some target) (hr : p.record target = some r)
    (hq : p.selectCheck target .directed = (passes, q)) :
    p.direct target channel =
      if p.coChannel r = true ∨ r.confirm = none then p.refuseDirect target .unconfirmed
      else if r.blocked = true then p.refuseDirect target .barred
      else if ((r.q.map (fun q => decide (p.params.acceptMin ≤ q))).getD false) = false then p.refuseDirect target .weak
      else if passes = true then q.beginHandover target .directed false
      else q := by
  simp only [Part.direct, h.free, h.auto, hs, hr, hq, Bool.or_eq_true, Option.isNone_iff_eq_none, Bool.not_eq_true',
    if_false]
  cases passes <;> rfl

/-- The refusals of R134 in their order. -/
theorem Part.direct_refused {p : Part} {target : Nat} (channel : Nat) {reason : DirectReason}
    (h : if p.aff.ctx.isSome = true ∨ p.aff.signingOff = true then reason = .busy
       else if p.params.mode = .fixed then reason = .modeFixed
       else p.aff.serving ≠ some target ∧
        match p.record target with
        | none => p.lowestEmpty = none ∧ p.victim [] = none ∧ reason = .unknown
        | some r =>
          if p.coChannel r = true ∨ r.confirm = none then reason = .unconfirmed
          else if r.blocked = true then reason = .barred
          else (∀ l, r.level = some l → l.f16 / 16 < p.params.acceptMin) ∧ reason = .weak) :
    p.direct target channel = p.refuseDirect target reason := by
  split at h
  · rename_i hb; rw [Part.direct_busy _ _ hb, h]
  rename_i hfree
  split at h
  · rename_i hm; rw [Part.direct_fixed _ _ hfree hm, h]
  rename_i hauto
  obtain ⟨hs, h⟩ := h
  split at h
  · rename_i hr
    obtain ⟨hl, hv, rfl⟩ := h
    have hn : p.learn target channel .direct [] = none := by simp [Part.learn, Part.makeRoom_none hl hv]
    exact Part.direct_forgone ⟨hfree, hauto⟩ hs hr hn
  · rename_i r hr
    rw [Part.direct_known channel ⟨hfree, hauto⟩ hs hr rfl]
    split at h
    · rename_i hc; rw [if_pos hc, h]
    rename_i hc
    split at h
    · rename_i hb; rw [if_neg hc, if_pos hb, h]
    rename_i hb
    obtain ⟨hw, rfl⟩ := h
    have hweak : ¬ r.strong p.params.acceptMin := by
      rintro ⟨l, hl, hle⟩
      exact absurd (hw l hl) (by omega)
    rw [← SiteRecord.strong_iff, Bool.not_eq_true] at hweak
    rw [if_neg hc, if_neg hb, if_pos hweak]

/-- A target that passes every check comes to the select check (R98, R134). -/
theorem Part.direct_passes {p q : Part} {target : Nat} {r : SiteRecord} {l : Level} {home : Nat} {passes : Bool}
    (channel : Nat) (h : p.OpenTo) (hs : p.aff.serving ≠ some target) (hr : p.record target = some r)
    (hh : p.servingChannel = some home) (hc : r.channel ≠ home) (hconf : r.confirm.isSome = true)
    (hb : r.blocked = false) (hl : r.level = some l) (hw : p.params.acceptMin ≤ l.f16 / 16)
    (hq : p.selectCheck target .directed = (passes, q)) :
    p.direct target channel = if passes = true then q.beginHandover target .directed false else q := by
  have hco : ¬ (p.coChannel r = true ∨ r.confirm = none) := by
    simp [Part.coChannel, hh, Ne.symm hc, Option.isSome_iff_ne_none.1 hconf]
  have hstrong : ¬ ((r.q.map (fun q => decide (p.params.acceptMin ≤ q))).getD false) = false := by
    rw [Bool.not_eq_false, SiteRecord.strong_iff]
    exact ⟨l, hl, hw⟩
  rw [Part.direct_known channel h hs hr hq, if_neg hco, if_neg (by simp [hb]), if_neg hstrong]

/-! ### The learned target -/

/-- A learned addition to the lowest empty slot (R2, R23). -/
theorem Part.learn_empty {p : Part} {i : Nat} (h : p.lowestEmpty = some i) (site channel : Nat) (source : LearnSource)
    (keep : List Nat) :
    p.learn site channel source keep =
      some (({ p with table := p.table.set i (some (SiteRecord.fresh site channel .learned 0)) } : Part).queueNotice
        (.siteLearned site channel i source)) := by
  simp only [Part.learn, Part.makeRoom, h]
  rfl

/-- A learned addition to the victim's slot: the table, the link with both notices, and what stays (R23, R24). -/
theorem Part.learn_evicts {p : Part} {i : Nat} {v : SiteRecord} {keep : List Nat} (hs : p.tableSound = true)
    (h : p.lowestEmpty = none) (hv : p.victim keep = some (i, v)) (site channel : Nat) (source : LearnSource) :
    ∃ q, p.learn site channel source keep = some q ∧
      q.table = p.table.set i (some (SiteRecord.fresh site channel .learned 0)) ∧
      q.link = ((p.queueNotice (.siteEvicted v.site v.channel i v.advAge)).queueNotice
        (.siteLearned site channel i source)).link ∧
      q.freeCount = ((p.queueNotice (.siteEvicted v.site v.channel i v.advAge)).queueNotice
        (.siteLearned site channel i source)).freeCount ∧
      q.tuning = p.tuning ∧ q.sched.work = p.sched.work ∧ q.engine = p.engine ∧ q.sup = p.sup ∧ q.aff = p.aff ∧
      q.lines = p.lines ∧ q.conv = p.conv := by
  have hrem : (p.removeRec v.site).table = p.table.set i none := Part.removeRec_table hs (Part.victim_slot hv)
  let room := (p.removeRec v.site).queueNotice (.siteEvicted v.site v.channel i v.advAge)
  let placed := room.place i (SiteRecord.fresh site channel .learned 0)
  have hroom := Part.queueNotice_link_congr (p := p) (q := p.removeRec v.site) rfl rfl
    (.siteEvicted v.site v.channel i v.advAge)
  have hplaced := Part.queueNotice_link_congr (q := placed) hroom.1 hroom.2 (.siteLearned site channel i source)
  have hlearn : p.learn site channel source keep = some (placed.queueNotice (.siteLearned site channel i source)) := by
    simp only [Part.learn, Part.makeRoom, h, hv]
    rfl
  refine ⟨_, hlearn, ?_, hplaced.1, hplaced.2, ?_⟩
  · simp [placed, room, hrem]
  · simp [placed, room, Part.place, Part.removeRec]

/-! ### The start of a handover -/

/-- The outputs asserted away from HOME and from rest, over whatever they were. -/
theorem Part.driveOutputs_out {p : Part} (hp : p.tuning.position ≠ .home) (hm : p.aff.machine.atRest = false) :
    p.driveOutputs = { p with lines := { p.lines.withMute true with txinh := true } } := by
  have hl := p.driveOutputs_lines
  have hpos : (p.tuning.position == .home) = false := by simpa using hp
  simp only [hpos, Bool.false_and, Bool.not_false, hm] at hl
  rw [← hl]
  rfl

/-- A handover goes to HO_TUNE with its tune away started: the receiver is free, no burst is to be discarded
(R125 step 4). -/
theorem Part.goTune_free {p : Part} {ctx : Context} {r : SiteRecord} (hr : p.record ctx.target = some r)
    (hh : p.tuning.holder = none) (hb : p.sched.burst = none) (hs : p.aff.serving.isSome = true) :
    p.goTune ctx =
      { p with
        aff.ctx := some { ctx with waiting := false }
        aff.machine := .hoTune
        sup.active := false
        sup.timer := none
        tuning.op := some (freshOp p.params r.channel .away .affiliation)
        tuning.pins := startPins p.params r.channel
        tuning.tuned := none
        tuning.holder := some .affiliation
        tuning.position := .away
        lines := { p.lines.withMute true with txinh := true } } := by
  let q : Part := { p with aff.ctx := some { ctx with waiting := false } }
  have hreq : p.goTune ctx = (q.setMachine .hoTune).suspend.startOp .affiliation ⟨r.channel, .away⟩ := by
    have hrec : (q.setMachine .hoTune).suspend.record ctx.target = some r := hr
    have hhold : (q.setMachine .hoTune).suspend.tuning.holder = none := hh
    show (match (q.setMachine .hoTune).suspend.record ctx.target with
      | some r => (q.setMachine .hoTune).suspend.requestTune .affiliation ⟨r.channel, .away⟩
      | none => (q.setMachine .hoTune).suspend) = _
    simp only [hrec, Part.requestTune, hhold]
  rw [hreq, Part.startOp_away (by exact hs) (Or.inr (by exact hb)),
    Part.driveOutputs_out (by simp) (by rfl)]
  have hlines : (q.setMachine .hoTune).lines = { p.lines.withMute true with txinh := true } := by
    have hno : (HoState.hoTune == HoState.registered) = false := rfl
    rw [Part.setMachine, Part.driveOutputs_lines]
    simp only [hno, Bool.and_false, Bool.false_and, Bool.not_false]
    rfl
  simp only [Part.suspend, hlines]
  simp [Lines.withMute, Part.setMachine, q]

/-- A handover begun with no gap to end, no context and no sign-off goes straight to its tune (R125). -/
theorem Part.beginHandover_free {p : Part} (target : Nat) (cause : Cause) (ofRound : Bool) (hc : p.aff.ctx = none)
    (hs : p.aff.signingOff = false) (hg : p.homeGap = false) :
    p.beginHandover target cause ofRound =
      (let ctx : Context :=
        { target := target, cause := cause, oldServing := p.aff.serving, canReturn := cause.canReturn, attempts := 0,
          cls := none, tried := [], waiting := false, inStep := p.engine.stepFlag && ofRound }
      ({ p with engine.cand := none, aff.ctx := some ctx } : Part).goTune ctx) := by
  simp [Part.beginHandover, hc, hs, hg]

/-! ### The select check (R98) -/

theorem Part.selectCheck_passes {p : Part} {site : Nat} {cause : Cause} (hc : cause ≠ .acquire)
    (h : p.engine.holdingSlot site = none) : p.selectCheck site cause = (true, p) := by
  simp [Part.selectCheck, hc, h]

theorem Part.selectCheck_held {p : Part} {site slot : Nat} {cause : Cause} (hc : cause ≠ .acquire)
    (h : p.engine.holdingSlot site = some slot) : p.selectCheck site cause = (false, p.freezeWatch slot) := by
  simp [Part.selectCheck, hc, h]

/-- A watch that freezes an engine not yet FROZEN (R155). -/
theorem Part.freezeWatch_heldBy {p : Part} (slot : Nat) (h : p.engine.state = .halted ∨ p.engine.state = .running) :
    p.freezeWatch slot = p.heldBy slot := by
  rcases h with h | h <;> simp only [Part.freezeWatch, h] <;> rfl

/-- A freeze leaves no STEP round behind it. -/
theorem Part.heldBy_live (slot : Nat) (p : Part) : (p.heldBy slot).stepRoundLive = true :=
  Part.live_of_queueNotice rfl

theorem Part.heldBy_driven {slot : Nat} {p : Part} (h : p.outputsDriven = true) : (p.heldBy slot).outputsDriven = true :=
  Part.driven_of_queueNotice (by exact h)

/-! ### RELEASE -/

/-- A RELEASE taken while no rounds are made owes its loss and bars the record (R136). -/
theorem Part.release_owed {p : Part} {site retry rounds : Nat} (hr : p.engine.state ≠ .running)
    (hf : p.engine.stepFlag = false) (h : rounds = if retry = 0 then p.params.failBar else retry) (h0 : rounds ≠ 0) :
    p.release site retry =
      ({ p with
        table := p.table.map (Option.map (fun r =>
          if r.site = site then { r with bar := some ⟨.refused, rounds⟩ } else r))
        engine.releaseOwed := true } : Part).queueNotice (.released site rounds) := by
  have hbar : SiteRecord.setBar .refused rounds = fun r => { r with bar := some ⟨.refused, rounds⟩ } := by
    funext r; simp [SiteRecord.setBar, h0]
  have htable : p.updateRec site (SiteRecord.setBar .refused rounds) =
      { p with table := p.table.map (Option.map (fun r =>
          if r.site = site then { r with bar := some ⟨.refused, rounds⟩ } else r)) } := by
    simp only [Part.updateRec, Part.mapRecords, hbar, beq_iff_eq]
  unfold Part.release
  simp only [← h, htable, Part.queueNotice_releaseOwed]
  simp [Part.raiseLoss, Engine.working, hr, hf]

theorem Part.takeFrame_release {p : Part} {site unit retry : Nat} (hu : p.ownUnit unit = true)
    (hs : p.fromServing site = true) : p.takeFrame (.release site unit retry) = p.release site retry := by
  simp [Part.takeFrame, hu, hs]

/-- Settles O49: R134's chain by `Part.direct_refused`, what passes it by the select check, and RELEASE by
`Part.release_owed`. -/
theorem directAndReleaseTaken : Obligations.DirectAndReleaseTaken := by
  unfold Obligations.DirectAndReleaseTaken
  refine ⟨?_, ?_⟩
  · intro s tag args site address target channel kind hf haddr hserving hm hpos
    have hlive := Part.hears_live hf.heard
    have hdriven := Part.hears_driven hf.heard
    have htake : s.part.takeFrame (.direct site kind address target channel) = s.part.direct target channel :=
      Part.takeFrame_direct (Part.addressed_of haddr) (Part.fromServing_of hserving hm hpos)
    refine ⟨fun reason hreason => ?_, fun hctx hsign hauto => ?_⟩
    · exact hf.replied (htake.trans (Part.direct_refused channel hreason)) (Part.live_of_queueNotice hlive)
        (Part.driven_of_queueNotice hdriven)
    have hopen : s.part.OpenTo := ⟨by simp [hctx, hsign], by simp [hauto]⟩
    refine ⟨fun hsame => ?_, fun hne hnone hsound => ⟨fun i hi => ?_, fun i v hl hv => ?_⟩,
      fun r l home hne hr hh hc hconf hb hlev hw => ⟨fun hslot hgap hhold hburst => ?_, fun slot hslot hstate => ?_⟩⟩
    · exact hf.replied (htake.trans (Part.direct_serving channel hopen (by rw [hserving, hsame]))) hlive hdriven
    · have hd := Part.direct_learned hopen (by simp [hserving, Ne.symm hne]) hnone
        (Part.learn_empty hi target channel .direct [])
      exact hf.replied (htake.trans hd) (Part.live_of_queueNotice (Part.live_of_queueNotice hlive))
        (Part.driven_of_queueNotice (Part.driven_of_queueNotice hdriven))
    · obtain ⟨q, hq, htable, hlink, hfree, htun, hwork, heng, hsup, haff, hlines, hconv⟩ :=
        Part.learn_evicts hsound hl hv target channel .direct
      have hd := Part.direct_learned hopen (by simp [hserving, Ne.symm hne]) hnone hq
      refine ⟨q.refuseDirect target .unconfirmed, ?_, ?_, ?_, ?_⟩
      · refine hf.replied (htake.trans hd) (Part.live_of_queueNotice ?_) (Part.driven_of_queueNotice ?_)
        · exact Part.live_congr hlive (by rw [heng]) hwork (by rw [haff])
        · exact (Part.outputsDriven_congr htun haff hlines).trans hdriven
      · exact (Part.refuseDirect_table _ _ q).trans htable
      · simpa [Part.refuseDirect] using haff
      · exact (Part.queueNotice_link_congr hlink hfree _).1
    · have hsel := Part.selectCheck_passes (p := s.part) (cause := .directed) (by decide) hslot
      have hd := Part.direct_passes channel hopen (by simp [hserving, Ne.symm hne]) hr hh hc hconf hb hlev hw hsel
      rw [if_pos rfl, Part.beginHandover_free target .directed false hctx hsign hgap] at hd
      dsimp only at hd
      rw [Part.goTune_free (r := r) (by exact hr) (by exact hhold) (by exact hburst) (by simp [hserving])] at hd
      refine hf.replied (htake.trans (hd.trans ?_)) ?_ ?_
      · simp only [hserving, Bool.and_false]; rfl
      · exact Part.live_congr hlive rfl rfl (by simp [hctx])
      · rfl
    · have hsel := Part.selectCheck_held (p := s.part) (cause := .directed) (by decide) hslot
      have hd := Part.direct_passes channel hopen (by simp [hserving, Ne.symm hne]) hr hh hc hconf hb hlev hw hsel
      rw [if_neg (by decide), Part.freezeWatch_heldBy slot hstate] at hd
      exact hf.replied (htake.trans hd) (Part.heldBy_live slot _) (Part.heldBy_driven hdriven)
  · intro s tag args site unit retry rounds hf hunit hserving hm hpos hstate hflag hrounds h0
    have htake : s.part.takeFrame (.release site unit retry) = s.part.release site retry :=
      Part.takeFrame_release (Part.ownUnit_of hunit) (Part.fromServing_of hserving hm hpos)
    refine hf.replied (htake.trans (Part.release_owed hstate hflag hrounds h0)) ?_ ?_
    · exact Part.live_of_queueNotice (Part.hears_live hf.heard)
    · exact Part.driven_of_queueNotice (Part.hears_driven hf.heard)

end Sys2Proof.Machine
end

section
/-! SUPPORT. The neighbour list entry by entry (R22, R23), and a serving beacon's reload of supervision (R103): the
statement O38. -/

namespace Sys2Proof.Machine

/-! ### One entry of a neighbour list (R22) -/

theorem Part.learnEntry_serving {p : Part} {site : Nat} (h : p.aff.serving = some site) (channel : Nat)
    (keep : List Nat) : Part.learnEntry (site, channel) (keep, p) = (keep, p) := by
  simp [Part.learnEntry, h]

theorem Part.learnEntry_learned {p q : Part} {site channel : Nat} {keep : List Nat} (h : p.aff.serving ≠ some site)
    (hr : p.record site = none) (hl : p.learn site channel .neighbour keep = some q) :
    Part.learnEntry (site, channel) (keep, p) = (site :: keep, q) := by
  simp [Part.learnEntry, h, hr, hl]

theorem Part.learnEntry_forgone {p : Part} {site channel : Nat} {keep : List Nat} (h : p.aff.serving ≠ some site)
    (hr : p.record site = none) (hl : p.learn site channel .neighbour keep = none) :
    Part.learnEntry (site, channel) (keep, p) = (keep, p) := by
  simp [Part.learnEntry, h, hr, hl]

theorem Part.learnEntry_known {p : Part} {site : Nat} {r : SiteRecord} (channel : Nat) (keep : List Nat)
    (h : p.aff.serving ≠ some site) (hr : p.record site = some r) :
    Part.learnEntry (site, channel) (keep, p) =
      (site :: keep,
        (if r.origin = .learned ∧ r.channel ≠ channel ∧ p.target ≠ some site then p.rechannel site channel
          else p).updateRec site (fun r => { r with advAge := 0 })) := by
  simp [Part.learnEntry, h, hr, and_assoc]

/-- In a sound table a record of the table that carries a site ID is the one found by it (R1). -/
theorem Part.mem_table_record {p : Part} (hs : p.tableSound = true) {site : Nat} {r q : SiteRecord}
    (hr : p.record site = some r) (hq : some q ∈ p.table) (h : q.site = site) : q = r := by
  obtain ⟨i, hi⟩ := List.mem_iff_getElem?.1 hq
  have hslot : p.slotAt i = some q := by simp [Part.slotAt, hi]
  have hrec := Part.record_of_slot hs hslot
  rw [h, hr] at hrec
  exact (Option.some.inj hrec).symm

/-- A record the list names is refreshed, and moved where R22 moves it. -/
def SiteRecord.refreshed (moves : Bool) (channel : Nat) (r : SiteRecord) : SiteRecord :=
  if moves then { r.rechannel channel with advAge := 0 } else { r with advAge := 0 }

theorem Part.refresh_table (p : Part) (site channel : Nat) (moves : Bool) :
    ((if moves then p.rechannel site channel else p).updateRec site (fun r => { r with advAge := 0 })).table =
      p.table.map (Option.map (fun r => if r.site = site then r.refreshed moves channel else r)) := by
  cases moves with
  | false => simp [Part.updateRec, Part.mapRecords, SiteRecord.refreshed]
  | true =>
    simp only [if_true, Part.updateRec, Part.mapRecords, Part.rechannel, Part.unsettle_stays, List.map_map]
    congr 1
    funext o
    cases o with
    | none => rfl
    | some q => by_cases h : q.site = site <;> simp [h, SiteRecord.refreshed, SiteRecord.rechannel]

/-! ### What a neighbour list leaves alone -/

/-- What a learned addition leaves alone. -/
abbrev Part.Untaught (p q : Part) : Prop :=
  q.tuning = p.tuning ∧ q.engine = p.engine ∧ q.sup = p.sup ∧ q.aff = p.aff ∧ q.lines = p.lines ∧ q.conv = p.conv ∧
    q.sched.work = p.sched.work

theorem Part.learn_untaught {p q : Part} {site channel : Nat} {source : LearnSource} {keep : List Nat}
    (h : p.learn site channel source keep = some q) : p.Untaught q := by
  unfold Part.learn at h
  split at h
  · rename_i i room hroom
    cases h
    unfold Part.makeRoom at hroom
    split at hroom
    · cases hroom; simp [Part.Untaught, Part.place]
    · split at hroom
      · cases hroom; simp [Part.Untaught, Part.place, Part.removeRec]
      · cases hroom
  · cases h

theorem Part.learnEntry_untaught (entry : Nat × Nat) (keep : List Nat) (p : Part) :
    p.Untaught (Part.learnEntry entry (keep, p)).2 := by
  obtain ⟨site, channel⟩ := entry
  by_cases hs : p.aff.serving = some site
  · simp [Part.learnEntry_serving hs, Part.Untaught]
  cases hr : p.record site with
  | none =>
    cases hl : p.learn site channel .neighbour keep with
    | none => simp [Part.learnEntry_forgone hs hr hl, Part.Untaught]
    | some q => rw [Part.learnEntry_learned hs hr hl]; exact Part.learn_untaught hl
  | some r =>
    rw [Part.learnEntry_known channel keep hs hr]
    split <;> simp [Part.Untaught, Part.rechannel]

theorem Part.learnFold_untaught (entries : List (Nat × Nat)) (x : List Nat × Part) :
    x.2.Untaught (entries.foldl (fun x e => Part.learnEntry e x) x).2 := by
  induction entries generalizing x with
  | nil => simp [Part.Untaught]
  | cons e es ih =>
    obtain ⟨h1, h2, h3, h4, h5, h6, h7⟩ := ih (Part.learnEntry e x)
    obtain ⟨g1, g2, g3, g4, g5, g6, g7⟩ := Part.learnEntry_untaught e x.1 x.2
    exact ⟨h1.trans g1, h2.trans g2, h3.trans g3, h4.trans g4, h5.trans g5, h6.trans g6, h7.trans g7⟩

@[simp] theorem Part.learnNeighbours_untaught (entries : List (Nat × Nat)) (p : Part) :
    p.Untaught (p.learnNeighbours entries) :=
  Part.learnFold_untaught entries ([], p)

/-! ### The serving beacon -/

/-- Supervision as an accepted serving beacon reloads it (R103). -/
def Part.reloaded (cls : Nat) (p : Part) : Sup where
  active := true
  state := .healthy
  cls := some cls
  timer := some (250 * 2 ^ cls)
  fine := p.params.fadeCount
  coarse := p.params.lostCount
  excuse := false
  pttNoted := p.active .ptt
  gapNoted := p.homeGap

/-- A serving beacon while ACTIVE (R103): the reload, with a notice unless the state was HEALTHY. -/
theorem Part.supBeacon_active {p : Part} (site cls : Nat) (h : p.sup.active = true) :
    p.supBeacon site cls =
      if p.sup.state = .healthy then { p with sup := p.reloaded cls }
      else ({ p with sup := p.reloaded cls } : Part).queueNotice (.servingState site .healthy) := by
  unfold Part.supBeacon Part.startInterval Part.freshMarks Part.reloaded
  simp only [h, if_true]
  rfl

/-- The table of a serving beacon's confirmation: the serving record is spared by its own site ID (R7, R13). -/
theorem Part.confirmedBy_serving {p : Part} {b : Beacon} (h : p.aff.serving = some b.site) :
    p.confirmedBy b = p.table.map (Option.map (fun r =>
      if r.site = b.site then { r with confirm := some 0, load := some b.load }
      else if r.channel = b.channel then { r with confirm := none } else r)) := by
  unfold Part.confirmedBy
  congr 1
  funext o
  cases o with
  | none => rfl
  | some r =>
    by_cases hr : r.site = b.site
    · simp [hr]
    · simp [hr, h, Ne.symm hr]

/-- What a beacon's writes leave alone, whatever the watches answer. -/
theorem Part.confirmFromBeacon_blocks (r : SiteRecord) (load : Nat) (p : Part) :
    (p.confirmFromBeacon r load).params = p.params ∧ (p.confirmFromBeacon r load).tuning = p.tuning ∧
      (p.confirmFromBeacon r load).sup = p.sup ∧ (p.confirmFromBeacon r load).aff = p.aff ∧
      (p.confirmFromBeacon r load).lines = p.lines ∧ (p.confirmFromBeacon r load).sched.gap = p.sched.gap := by
  unfold Part.confirmFromBeacon
  dsimp only
  split <;> simp [Part.unconfirmOthers]

/-- The serving site's beacon in REGISTERED and HOME: the writes, the reload, the neighbours (R120, R121). -/
theorem Part.takeFrame_servingBeacon {p : Part} {b : Beacon} {r : SiteRecord} (ht : p.tuning.tuned = some b.channel)
    (hs : p.aff.serving = some b.site) (hm : p.aff.machine = .registered) (hp : p.tuning.position = .home)
    (hr : p.record b.site = some r) (hc : r.channel = b.channel) :
    p.takeFrame (.beacon b) =
      ((p.confirmFromBeacon r b.load).supBeacon b.site b.cls).learnNeighbours b.neighbours := by
  have hw : p.beaconWrites b = p.confirmFromBeacon r b.load := by simp [Part.beaconWrites, hr, hc]
  obtain ⟨-, htun, -, haff, -⟩ := p.confirmFromBeacon_blocks r b.load
  simp [Part.takeFrame, Part.takeBeacon, ht, hw, Part.handOnBeacon, htun, haff, hm, hp, hs]

/-- The reload reads the levels, the gap and the parameters, which a beacon's writes leave alone. -/
theorem Part.reloaded_confirm (r : SiteRecord) (load cls : Nat) (p : Part) :
    (p.confirmFromBeacon r load).reloaded cls = p.reloaded cls := by
  obtain ⟨hps, -, -, -, hl, hg⟩ := p.confirmFromBeacon_blocks r load
  simp only [Part.reloaded, Part.active, Part.homeGap, hps, hl, hg]

/-- What a serving beacon makes of supervision while ACTIVE, and what it leaves alone besides. -/
theorem Part.supBeacon_blocks {p : Part} (site cls : Nat) (h : p.sup.active = true) :
    (p.supBeacon site cls).sup = p.reloaded cls ∧ (p.supBeacon site cls).tuning = p.tuning := by
  rw [Part.supBeacon_active site cls h]
  split <;> simp

/-- An entry that names a record of the table (R18, R22). -/
theorem Part.learnEntry_known_table {p : Part} (hsound : p.tableSound = true) {site : Nat} {r : SiteRecord}
    (channel : Nat) (keep : List Nat) (h : p.aff.serving ≠ some site) (hr : p.record site = some r) :
    ∃ q, Part.learnEntry (site, channel) (keep, p) = (site :: keep, q) ∧ q.link = p.link ∧
      q.table = p.table.map (Option.map (fun r =>
        if r.site = site then
          if r.origin = .learned ∧ r.channel ≠ channel ∧ p.target ≠ some site then
            { r with
              channel := channel, level := none, age := 0, confirm := none, bar := none, failures := 0,
              advAge := 0 }
          else { r with advAge := 0 }
        else r)) := by
  refine ⟨_, Part.learnEntry_known channel keep h hr, ?_, ?_⟩
  · split <;> simp [Part.rechannel]
  · have ht := p.refresh_table site channel (decide (r.origin = .learned ∧ r.channel ≠ channel ∧ p.target ≠ some site))
    simp only [decide_eq_true_eq] at ht
    rw [ht]
    refine List.map_congr_left (fun o ho => ?_)
    cases o with
    | none => rfl
    | some q =>
      simp only [Option.map_some, Option.some.injEq]
      by_cases hq : q.site = site
      · obtain rfl := Part.mem_table_record hsound hr ho hq
        simp only [hq, if_true, SiteRecord.refreshed, decide_eq_true_eq, SiteRecord.rechannel]
      · simp [hq]

/-- Settles O38: the beacon's writes and the reload, then the neighbour list entry by entry. -/
theorem servingBeaconReloadsAndTeaches : Obligations.ServingBeaconReloadsAndTeaches := by
  unfold Obligations.ServingBeaconReloadsAndTeaches
  refine ⟨fun s tag args b r hf ht hs hm hp hactive hr hc => ?_, fun _ _ => rfl,
    fun p keep site channel hsound => ⟨fun h => Part.learnEntry_serving h channel keep,
      fun h hr => ⟨fun i hi => ?_, fun i v hl hv => ?_, fun hl hv => ?_⟩,
      fun r h hr => Part.learnEntry_known_table hsound channel keep h hr⟩⟩
  · have htake := Part.takeFrame_servingBeacon ht hs hm hp hr hc
    obtain ⟨hps, htun, hsup, haff, -⟩ := s.part.confirmFromBeacon_blocks r b.load
    have hheld : s.part.confirmHeld r = false := Part.confirmHeld_atRest r (by rw [hm]; rfl)
    have htable := (Part.confirmFromBeacon_table (p := s.part) (Part.record_some hr).2 hc hheld).trans
      (Part.confirmedBy_serving hs)
    obtain ⟨hsup', htun'⟩ := Part.supBeacon_blocks (p := s.part.confirmFromBeacon r b.load) b.site b.cls
      (by rw [hsup]; exact hactive)
    rw [Part.reloaded_confirm] at hsup'
    obtain ⟨l1, l2, l3, l4, l5, l6, l7⟩ := Part.learnNeighbours_untaught b.neighbours
      ((s.part.confirmFromBeacon r b.load).supBeacon b.site b.cls)
    refine ⟨⟨_, hf.taken, Part.placeReply_reply _ _, ?_, ?_, ?_, ?_, fun hn i => ?_⟩, fun h0 h1 hhealthy => ?_⟩
    · simp only [State.withPart_part, htake, Part.placeReply_blocks, l3, hsup']
      rfl
    · simp only [State.withPart_part, htake, Part.placeReply_blocks, l4, Part.supBeacon_stays, haff]
    · simp only [State.withPart_part, htake, Part.placeReply_blocks, l1, htun', htun]
    · simp
    · rw [← Part.slotAt_mapRecords]
      simp only [State.withPart_part, htake, hn, Part.slotAt, Part.placeReply_blocks, Part.learnNeighbours,
        List.foldl_nil, Part.supBeacon_stays, htable, Part.mapRecords]
    · have hwrites := Part.beaconWrites_confirmed hr hc hheld h0 h1
      have hq : s.part.confirmFromBeacon r b.load = { s.part with table := s.part.confirmedBy b } := by
        rw [← hwrites]; simp [Part.beaconWrites, hr, hc]
      rw [hq, Part.supBeacon_active _ _ (by exact hactive), if_pos hhealthy, Part.confirmedBy_serving hs] at htake
      obtain ⟨k1, k2, k3, k4, k5, k6, k7⟩ := Part.learnNeighbours_untaught b.neighbours
        { s.part with
          table := s.part.table.map (Option.map (fun r =>
            if r.site = b.site then { r with confirm := some 0, load := some b.load }
            else if r.channel = b.channel then { r with confirm := none } else r))
          sup := s.part.reloaded b.cls }
      refine hf.replied htake (Part.live_congr (Part.hears_live hf.heard) (congrArg Engine.stepFlag k2) k7
        (congrArg (fun a : Aff => (a.ctx.map Context.inStep).getD false) k4)) ((Part.outputsDriven_congr k1 k4 k5).trans (Part.hears_driven hf.heard))
  · exact Part.learnEntry_learned h hr (Part.learn_empty hi site channel .neighbour keep)
  · obtain ⟨q, hq, htable, hlink, -⟩ := Part.learn_evicts hsound hl hv site channel .neighbour
    exact ⟨q, Part.learnEntry_learned h hr hq, htable, hlink⟩
  · exact Part.learnEntry_forgone h hr (by simp [Part.learn, Part.makeRoom_none hl hv])

end Sys2Proof.Machine
end

section
/-! SUPPORT. The searches of the scheduler from a pointer (R48, R55), and the end of a serving burst with the gap it
may start (R43 to R48): the statement O34. -/

namespace Sys2Proof.Machine

/-! ### Searches from a pointer -/

/-- The steps from a pointer up to a position, position 23 followed by position 0. -/
def stepsFrom (ptr position : Nat) : Nat := (position + 24 - ptr) % 24

theorem fromPointer_pairwise {ptr : Nat} (h : ptr < 24) :
    (fromPointer ptr (List.range 24)).Pairwise (fun i j => stepsFrom ptr i < stepsFrom ptr j) := by
  have hr : (List.range 24).Pairwise (fun i j => i < j ∧ j < 24) :=
    (List.pairwise_lt_range (n := 24)).imp_of_mem (fun _ hj hij => ⟨hij, List.mem_range.1 hj⟩)
  unfold fromPointer stepsFrom
  rw [List.pairwise_append]
  refine ⟨?_, ?_, fun i hi j hj => ?_⟩
  · refine (hr.filter _).imp_of_mem (fun hi hj hij => ?_)
    simp only [List.mem_filter, List.mem_range, decide_eq_true_eq] at hi hj
    omega
  · refine (hr.filter _).imp_of_mem (fun hi hj hij => ?_)
    simp only [List.mem_filter, List.mem_range, decide_eq_true_eq] at hi hj
    omega
  · simp only [List.mem_filter, List.mem_range, decide_eq_true_eq] at hi hj
    omega

theorem mem_fromPointer {ptr i : Nat} {l : List Nat} : i ∈ fromPointer ptr l ↔ i ∈ l := by
  simp only [fromPointer, List.mem_append, List.mem_filter, decide_eq_true_eq, ← and_or_left, and_iff_left_iff_imp]
  omega

/-- A search finds the entry that comes first among those that answer. -/
theorem findSome?_first {α : Type} {key : Nat → Nat} {f : Nat → Option α} {l : List Nat}
    (hl : l.Pairwise (fun i j => key i < key j)) {i : Nat} {x : α} (hi : i ∈ l) (hx : f i = some x)
    (hfirst : ∀ j ∈ l, (f j).isSome = true → key i ≤ key j) : l.findSome? f = some x := by
  induction l with
  | nil => cases hi
  | cons a l ih =>
    rw [List.pairwise_cons] at hl
    rw [List.findSome?_cons]
    rcases List.mem_cons.1 hi with rfl | hmem
    · rw [hx]
    · cases ha : f a with
      | none => exact ih hl.2 hmem (fun j hj => hfirst j (List.mem_cons_of_mem a hj))
      | some y =>
        have := hfirst a List.mem_cons_self (by rw [ha]; rfl)
        have := hl.1 i hmem
        omega

/-- The search upward from a pointer finds the position that is the first to fit (R48, R55). -/
theorem findSome?_fromPointer {α : Type} {ptr i : Nat} {fits : Nat → Prop} {f : Nat → Option α} {x : α}
    (hp : ptr < 24) (hf : ∀ j, (f j).isSome = true → fits j) (h : FirstFrom ptr fits i) (hx : f i = some x) :
    (fromPointer ptr (List.range 24)).findSome? f = some x := by
  obtain ⟨hi, -, hmin⟩ := h
  refine findSome?_first (fromPointer_pairwise hp) (mem_fromPointer.2 (List.mem_range.2 hi)) hx (fun j hj hs => ?_)
  exact hmin j (List.mem_range.1 (mem_fromPointer.1 hj)) (hf j hs)

theorem findSome?_fromPointer_none {α : Type} {ptr : Nat} {f : Nat → Option α} {l : List Nat}
    (h : ∀ j, f j = none) : (fromPointer ptr l).findSome? f = none :=
  List.findSome?_eq_none_iff.2 (fun j _ => h j)

/-! ### The record a HOME gap may visit -/

/-- The record in a slot may be visited in a HOME round (R48). -/
def Part.Visitable (p : Part) (visited : List Nat) (i : Nat) (r : SiteRecord) : Prop :=
  p.slotAt i = some r ∧ p.aff.serving ≠ some r.site ∧ p.coChannel r = false ∧ r.blocked = false ∧ i ∉ visited

theorem Part.visitFit_iff {p : Part} {visited : List Nat} {i : Nat} {x : Nat × SiteRecord} :
    p.visitFit visited i = some x ↔ x.1 = i ∧ p.Visitable visited i x.2 := by
  obtain ⟨j, q⟩ := x
  unfold Part.visitFit Part.Visitable
  cases h : p.slotAt i with
  | none => simp
  | some r =>
    simp only [Bool.and_eq_true, bne_iff_ne, ne_eq, Bool.not_eq_true', List.contains_eq_mem, decide_eq_false_iff_not,
      Option.ite_none_right_eq_some, Option.some.injEq, Prod.mk.injEq]
    constructor
    · rintro ⟨⟨⟨⟨h1, h2⟩, h3⟩, h4⟩, rfl, rfl⟩
      exact ⟨rfl, rfl, h1, h2, h3, h4⟩
    · rintro ⟨rfl, rfl, h1, h2, h3, h4⟩
      exact ⟨⟨⟨⟨h1, h2⟩, h3⟩, h4⟩, rfl, rfl⟩

theorem Part.visitFit_none {p : Part} {visited : List Nat} {i : Nat} (h : ∀ r, ¬ p.Visitable visited i r) :
    p.visitFit visited i = none := by
  cases hv : p.visitFit visited i with
  | none => rfl
  | some x => exact absurd (Part.visitFit_iff.1 hv).2 (h x.2)

/-- The pending candidate's position in the first gap of a round (R47). -/
def Part.PendingAt (p : Part) (visited : List Nat) (i : Nat) : Prop :=
  visited = [] ∧ (∃ r, p.Visitable [] i r) ∧ ∃ c r, p.engine.cand = some c ∧ p.find c.site = some (i, r)

theorem Part.pendingVisit_iff {p : Part} {x : Nat × SiteRecord} :
    p.pendingVisit = some x ↔
      p.Visitable [] x.1 x.2 ∧ ∃ c r, p.engine.cand = some c ∧ p.find c.site = some (x.1, r) := by
  unfold Part.pendingVisit
  cases hc : p.engine.cand with
  | none => simp
  | some c =>
    simp only [Option.bind_eq_some_iff, Part.visitFit_iff]
    constructor
    · rintro ⟨⟨j, r⟩, hf, rfl, hv⟩
      exact ⟨hv, c, r, rfl, hf⟩
    · rintro ⟨hv, c', r, hc', hf⟩
      cases hc'
      exact ⟨(x.1, r), hf, rfl, hv⟩

/-- The first gap of a round goes to the pending candidate (R47). -/
theorem Part.chooseVisit_pending {p : Part} {w : RoundWork} {i : Nat} {r : SiteRecord} (hp : p.PendingAt w.visited i)
    (hr : p.slotAt i = some r) : p.chooseVisit w = some ((i, r), true) := by
  obtain ⟨hempty, ⟨q, hv⟩, hc⟩ := hp
  obtain rfl : q = r := Option.some.inj (hv.1.symm.trans hr)
  have h : p.pendingVisit = some (i, q) := Part.pendingVisit_iff.2 ⟨hv, hc⟩
  simp [Part.chooseVisit, hempty, h]

theorem Part.chooseVisit_search {p : Part} {w : RoundWork} (hp : ∀ i, ¬ p.PendingAt w.visited i) :
    p.chooseVisit w = (p.pointerSearch w.visited).map (fun x => (x, false)) := by
  unfold Part.chooseVisit
  split
  · rename_i x hempty hx
    obtain ⟨hv, hc⟩ := Part.pendingVisit_iff.1 hx
    exact absurd ⟨List.isEmpty_iff.1 hempty, ⟨x.2, hv⟩, hc⟩ (hp x.1)
  · rfl

/-- Every other gap goes to the first fit record from the visit pointer (R48). -/
theorem Part.chooseVisit_first {p : Part} {w : RoundWork} {i : Nat} {r : SiteRecord}
    (hp : ∀ i, ¬ p.PendingAt w.visited i) (hptr : p.sched.visitPtr < 24)
    (hf : FirstFrom p.sched.visitPtr (fun j => ∃ r, p.Visitable w.visited j r) i) (hr : p.slotAt i = some r) :
    p.chooseVisit w = some ((i, r), false) := by
  obtain ⟨q, hv⟩ := hf.2.1
  obtain rfl : q = r := Option.some.inj (hv.1.symm.trans hr)
  have hs : p.pointerSearch w.visited = some (i, q) := by
    refine findSome?_fromPointer hptr (fun j hj => ?_) hf (Part.visitFit_iff.2 ⟨rfl, hv⟩)
    obtain ⟨x, hx⟩ := Option.isSome_iff_exists.1 hj
    exact ⟨x.2, (Part.visitFit_iff.1 hx).2⟩
  rw [Part.chooseVisit_search hp, hs]
  rfl

theorem Part.chooseVisit_none {p : Part} {w : RoundWork} (h : ∀ i r, ¬ p.Visitable w.visited i r) :
    p.chooseVisit w = none := by
  have hp (i : Nat) : ¬ p.PendingAt w.visited i := by
    rintro ⟨hempty, ⟨r, hv⟩, -⟩
    exact h i r (hempty ▸ hv)
  have hs : p.pointerSearch w.visited = none :=
    findSome?_fromPointer_none (fun j => Part.visitFit_none (h j))
  rw [Part.chooseVisit_search hp, hs]
  rfl

/-! ### The next HOME gap -/

/-- The permissions of R45 and R46, as they stand before the scheduler comes to the gap. -/
def Part.GapAllowed (p : Part) (w : RoundWork) : Prop :=
  p.tuning.position = .home ∧ p.active .ptt = false ∧ p.active .call = false ∧ p.aff.tx = none ∧
    p.aff.machine = .registered ∧ 0 < w.gapsLeft ∧ (w.visited = [] → p.lines.battery = .low → p.sched.conserve ≤ 1)

@[simp] theorem Part.passFirstGap_blocks (p : Part) :
    p.passFirstGap.tuning = p.tuning ∧ p.passFirstGap.lines = p.lines ∧ p.passFirstGap.conv = p.conv ∧
      p.passFirstGap.sched.burst = p.sched.burst ∧ p.passFirstGap.sched.gap = p.sched.gap ∧
      p.passFirstGap.sched.work = p.sched.work := by
  unfold Part.passFirstGap; (repeat' split) <;> simp

theorem Part.passFirstGap_conserve {p : Part} {w : RoundWork} (hw : p.sched.work = some w) (hk : w.kind = .home) :
    p.passFirstGap.sched.conserve =
      if w.visited = [] ∧ p.lines.battery = .low then p.sched.conserve - 1 else p.sched.conserve := by
  unfold Part.passFirstGap
  simp only [hw, hk, beq_self_eq_true, Bool.true_and, Bool.and_eq_true, List.isEmpty_iff, beq_iff_eq]
  split <;> rfl

/-- The permission judged once the conserve countdown has been lowered is R45's and R46's (log entry 12). -/
theorem Part.gapPermitted_iff {p : Part} {w : RoundWork} (hw : p.sched.work = some w) (hk : w.kind = .home) :
    p.passFirstGap.gapPermitted w = true ↔ p.GapAllowed w := by
  unfold Part.gapPermitted Part.GapAllowed
  simp only [Part.passFirstGap_blocks, Part.passFirstGap_stays, Part.passFirstGap_conserve hw hk, Part.active,
    Bool.and_eq_true, Bool.or_eq_true, beq_iff_eq, Bool.not_eq_true', Option.isNone_iff_eq_none, decide_eq_true_eq,
    and_assoc]
  have hlast : (((w.visited.isEmpty = false ∨ p.lines.battery = .normal) ∨
      (if w.visited = [] ∧ p.lines.battery = .low then p.sched.conserve - 1 else p.sched.conserve) = 0) ↔
      (w.visited = [] → p.lines.battery = .low → p.sched.conserve ≤ 1)) := by
    cases hv : w.visited <;> cases hb : p.lines.battery <;> simp
    omega
  rw [hlast]

/-- A search looks at the table, the serving site and the candidate, none of which the countdown touches. -/
theorem Part.chooseVisit_passFirstGap (p : Part) (w : RoundWork) : p.passFirstGap.chooseVisit w = p.chooseVisit w := by
  unfold Part.passFirstGap
  (repeat' split) <;> rfl

/-- The scheduler comes to a gap that is not permitted, or has no record to visit: the round's work ends (R45, R57). -/
theorem Part.considerHomeGap_stops {p : Part} {w : RoundWork} (hw : p.sched.work = some w) (hk : w.kind = .home)
    (hb : p.sched.burst = none) (hg : p.sched.gap = none) (h : ¬ p.GapAllowed w ∨ p.chooseVisit w = none) :
    p.considerHomeGap = p.passFirstGap.skipGaps := by
  unfold Part.considerHomeGap
  simp only [hw, hk, hb, hg, Part.chooseVisit_passFirstGap, Option.isNone_none, beq_self_eq_true, Bool.and_self, if_true]
  rcases h with h | h
  · rw [if_neg (mt (Part.gapPermitted_iff hw hk).1 h)]
  · split
    · rw [h]
    · rfl

/-- The scheduler starts a gap that is permitted (R47). -/
theorem Part.considerHomeGap_starts {p : Part} {w : RoundWork} {x : Nat × SiteRecord} {fromPending : Bool}
    (hw : p.sched.work = some w) (hk : w.kind = .home) (hb : p.sched.burst = none) (hg : p.sched.gap = none)
    (ha : p.GapAllowed w) (hx : p.chooseVisit w = some (x, fromPending)) :
    p.considerHomeGap = p.passFirstGap.startHomeGap w x fromPending := by
  unfold Part.considerHomeGap
  simp only [hw, hk, hb, hg, Part.chooseVisit_passFirstGap, Option.isNone_none, beq_self_eq_true, Bool.and_self, if_true,
    (Part.gapPermitted_iff hw hk).2 ha, hx]

/-- The part with a HOME gap begun, before its tune away (R46, R47, R57). -/
def Part.gapBegun (w : RoundWork) (x : Nat × SiteRecord) (fromPending : Bool) (p : Part) : Part :=
  { p with
    sched.gap := some (freshGap p.params x.1 x.2 (if x.2.confirm.isSome = true then .short else .long) fromPending
      p.engine.stepFlag)
    sched.work := some { w with gapsLeft := w.gapsLeft - 1, visited := w.visited ++ [x.1] }
    sched.conserve := if w.visited = [] then p.params.conserveFactor else p.sched.conserve
    sup := { p.sup with gapNoted := p.sup.gapNoted || p.sup.timer.isSome } }

/-- A HOME gap that starts with the receiver free: begun, and its tune away started (R33, R47). -/
theorem Part.startHomeGap_free {p : Part} {w : RoundWork} {x : Nat × SiteRecord} (fromPending : Bool)
    (hh : p.tuning.holder = none) (hb : p.sched.burst = none) (hs : p.aff.serving.isSome = true) :
    p.startHomeGap w x fromPending =
      ({ p.gapBegun w x fromPending with
        tuning.op := some (freshOp p.params x.2.channel .away .scheduler)
        tuning.pins := startPins p.params x.2.channel
        tuning.tuned := none
        tuning.holder := some .scheduler
        tuning.position := .away } : Part).driveOutputs := by
  have hbegun : p.startHomeGap w x fromPending =
      (p.gapBegun w x fromPending).requestTune .scheduler ⟨x.2.channel, .away⟩ := by
    unfold Part.startHomeGap Part.gapBegun Part.noteGap
    simp only [List.isEmpty_iff]
    congr 1
    split
    · rename_i h
      simp only [h, Bool.or_true]
      rfl
    · rename_i h
      simp only [Bool.not_eq_true] at h
      simp only [h, Bool.or_false]
      rfl
  have hreq : (p.gapBegun w x fromPending).requestTune .scheduler ⟨x.2.channel, .away⟩ =
      (p.gapBegun w x fromPending).startOp .scheduler ⟨x.2.channel, .away⟩ := by
    unfold Part.requestTune
    rw [show (p.gapBegun w x fromPending).tuning.holder = none from hh]
  rw [hbegun, hreq, Part.startOp_away (by exact hs) (Or.inr (by exact hb))]
  rfl

/-! ### The end of a serving burst -/

/-- The crediting of a record is the one the statements name (R64, R65). -/
theorem SiteRecord.credit_eq (ps : Params) (mean : Nat) (r : SiteRecord) : r.credit ps mean = r.credited ps mean := by
  unfold SiteRecord.credit SiteRecord.credited filterLevel filterStep filterGain
  cases r.level with
  | none => rfl
  | some l => simp only [apply_ite Nat.cast]

/-- The part as a burst's last sample leaves it: the burst gone, the converter idle, the mean credited (R43, R176). -/
def Part.burstDone (b : Burst) (mean : Nat) (p : Part) : Part :=
  let q : Part := { p with sched.burst := none, conv.state := .idle }
  if b.standing then q.credit b.site mean else q

/-- The last conversion of a burst comes to its end (R42, R43). -/
theorem exec_lastSample {s : State} {b : Burst} (code : Byte) (hc : s.part.conv.state = .rssi)
    (hw : s.part.conv.waiting = none) (hb : s.part.sched.burst = some b) (hp : b.run.phase = .converting)
    (hn : b.run.taken + 1 = b.run.count) :
    exec (.rssiConversionDone code) s =
      .next (s.withPart
        (s.part.burstDone b ((b.run.sum + levelOfCode s.part.params code) / b.run.count)).considerHomeGap.finish) := by
  have hs : s.part.sampling .converting = true := by simp [Part.sampling, hc, Part.run, hb, hp]
  have ht : s.part.takeSample code =
      (s.part.burstDone b ((b.run.sum + levelOfCode s.part.params code) / b.run.count)).considerHomeGap := by
    simp [Part.takeSample, Part.mapRun, hb, Part.run, SampleRun.add, hn, Part.releaseConverter, hw, Part.runComplete,
      Part.endBurst, SampleRun.mean, Part.burstDone]
  show execRssiConversionDone code s = _
  rw [execRssiConversionDone, if_pos hs, ht]

theorem Part.slotAt_of_table {p q : Part} (h : q.table = p.table) (i : Nat) : q.slotAt i = p.slotAt i := by
  simp only [Part.slotAt, h]

/-- The records as a burst's last sample leaves them: the mean credited to the burst's, where it still stands (R12, R65). -/
theorem Part.burstDone_slotAt (b : Burst) (mean : Nat) (p : Part) (i : Nat) :
    (p.burstDone b mean).slotAt i = (p.slotAt i).map (fun r =>
      if b.standing = true ∧ r.site = b.site then r.credited p.params mean else r) := by
  unfold Part.burstDone
  by_cases hb : b.standing = true
  · simp only [hb, if_true, true_and]
    rw [Part.credit, Part.slotAt_of_table (Part.offerWrite_unwatched _ _ _).1, Part.slotAt_updateRec]
    simp only [SiteRecord.credit_eq]
    rfl
  · simp only [hb, if_false, false_and, Bool.false_eq_true, Option.map_id']
    rfl

theorem Part.burstDone_places (b : Burst) (mean : Nat) (p : Part) : p.SamePlaces (p.burstDone b mean) := by
  unfold Part.burstDone
  cases b.standing
  · exact rfl
  · exact Part.credit_places b.site mean { p with sched.burst := none, conv.state := .idle }

theorem Part.burstDone_blocks (b : Burst) (mean : Nat) (p : Part) :
    (p.burstDone b mean).sched.burst = none ∧ (p.burstDone b mean).conv.state = .idle ∧
      (p.burstDone b mean).params = p.params ∧ (p.burstDone b mean).aff = p.aff ∧
      (p.burstDone b mean).lines = p.lines ∧ (p.burstDone b mean).tuning = p.tuning := by
  unfold Part.burstDone
  dsimp only
  split <;> simp [Part.credit]

/-- With no watch set a burst's end writes the record and gives up the converter, and no more. -/
theorem Part.burstDone_unset {p : Part} (h0 : p.engine.watch0 = none) (h1 : p.engine.watch1 = none) (b : Burst)
    (mean : Nat) :
    (p.burstDone b mean).sched = { p.sched with burst := none } ∧ (p.burstDone b mean).engine = p.engine ∧
      (p.burstDone b mean).sup = p.sup := by
  unfold Part.burstDone
  dsimp only
  split
  · rw [Part.credit, Part.offerWrite_unset (by simpa using h0) (by simpa using h1)]
    simp
  · simp

/-! ### No burst, no converter -/

theorem Part.startOp_noBurst {p : Part} (hb : p.sched.burst = none) (owner : Owner) (req : TuneReq) :
    (p.startOp owner req).sched.burst = none ∧ (p.startOp owner req).conv = p.conv := by
  unfold Part.startOp
  rw [Part.recomputePosition_noBurst (by exact hb)]
  exact ⟨hb, rfl⟩

theorem Part.requestTune_noBurst {p : Part} (hb : p.sched.burst = none) (owner : Owner) (req : TuneReq) :
    (p.requestTune owner req).sched.burst = none ∧ (p.requestTune owner req).conv = p.conv := by
  unfold Part.requestTune Part.putWaiting
  (repeat' split) <;> simp [hb, Part.startOp_noBurst]

/-- A gap that is considered with no burst in flight touches neither burst nor converter. -/
theorem Part.considerHomeGap_noBurst {p : Part} (hb : p.sched.burst = none) :
    p.considerHomeGap.sched.burst = none ∧ p.considerHomeGap.conv = p.conv := by
  have hstart (q : Part) (w : RoundWork) (x : Nat × SiteRecord) (f : Bool) (h : q.sched.burst = none) :
      (q.startHomeGap w x f).sched.burst = none ∧ (q.startHomeGap w x f).conv = q.conv := by
    unfold Part.startHomeGap Part.noteGap
    dsimp only
    split <;> exact Part.requestTune_noBurst (by exact h) _ _
  unfold Part.considerHomeGap Part.skipGaps
  split
  · split
    · dsimp only
      (repeat' split) <;> simp [hb, hstart]
    · exact ⟨hb, rfl⟩
  · exact ⟨hb, rfl⟩

theorem Part.finish_mute (p : Part) :
    p.finish.lines.mute =
      !(p.tuning.position == .home && p.aff.machine == .registered && p.aff.serving.isSome) := by
  have h : p.finish.outputsDriven = true := Part.driveOutputs_driven _
  simp only [Part.outputsDriven, Part.finish_blocks, Bool.and_eq_true, beq_iff_eq] at h
  exact h.1

/-! ### From the records before the burst's end to those after it -/

theorem Part.visitable_iff {p : Part} {site home : Nat} (hs : p.aff.serving = some site)
    (hc : p.servingChannel = some home) {visited : List Nat} {i : Nat} {r : SiteRecord} :
    p.Visitable visited i r ↔
      p.slotAt i = some r ∧ r.site ≠ site ∧ r.channel ≠ home ∧ r.blocked = false ∧ i ∉ visited := by
  unfold Part.Visitable Part.coChannel
  simp only [hs, hc]
  by_cases hsite : r.site = site
  · simp [hsite]
  · have hb : (some site != some r.site) = true := by simpa using Ne.symm hsite
    simp only [hb, Bool.and_true, beq_eq_false_iff_ne, ne_eq, Option.some.injEq, hsite, not_false_eq_true, true_and,
      Ne.symm hsite, eq_comm (a := home)]

/-- Crediting a record changes nothing of what a visit asks of it. -/
theorem Part.burstDone_visitable {p : Part} {site home : Nat} (hs : p.aff.serving = some site)
    (hc : p.servingChannel = some home) (b : Burst) (mean : Nat) (visited : List Nat) (i : Nat) :
    (∃ r, (p.burstDone b mean).Visitable visited i r) ↔
      ∃ r, p.slotAt i = some r ∧ r.site ≠ site ∧ r.channel ≠ home ∧ r.blocked = false ∧ i ∉ visited := by
  obtain ⟨-, -, -, haff, -, -⟩ := p.burstDone_blocks b mean
  have hs' : (p.burstDone b mean).aff.serving = some site := by rw [haff, hs]
  have hc' : (p.burstDone b mean).servingChannel = some home :=
    ((p.burstDone_places b mean).servingChannel (by rw [haff])).trans hc
  simp only [Part.visitable_iff hs' hc', Part.burstDone_slotAt]
  cases p.slotAt i with
  | none => simp
  | some r =>
    simp only [Option.map_some, Option.some.injEq, exists_eq_left']
    split <;> rfl

theorem Part.SamePlaces.find_at {p q : Part} (h : p.SamePlaces q) (site i : Nat) :
    (∃ r, q.find site = some (i, r)) ↔ ∃ r, p.find site = some (i, r) := by
  have key (o : Option (Nat × SiteRecord)) :
      (∃ r, o = some (i, r)) ↔ (o.map (fun x => (x.1, x.2.place))).map Prod.fst = some i := by
    rcases o with - | ⟨j, r⟩ <;> simp
  rw [key, key, h.find site]

/-- The permissions, the records to visit and the pending one are after a burst's end what they were before it. -/
theorem Part.burstDone_allowed {p : Part} (h0 : p.engine.watch0 = none) (h1 : p.engine.watch1 = none) (b : Burst)
    (mean : Nat) (w : RoundWork) : (p.burstDone b mean).GapAllowed w ↔ p.GapAllowed w := by
  obtain ⟨-, -, -, haff, hlines, htuning⟩ := p.burstDone_blocks b mean
  obtain ⟨hsched, -, -⟩ := Part.burstDone_unset h0 h1 b mean
  simp only [Part.GapAllowed, Part.active, haff, hlines, htuning, hsched]

theorem Part.burstDone_pending {p : Part} {site home : Nat} (hs : p.aff.serving = some site)
    (hc : p.servingChannel = some home) (h0 : p.engine.watch0 = none) (h1 : p.engine.watch1 = none) (b : Burst)
    (mean : Nat) (visited : List Nat) (i : Nat) :
    (p.burstDone b mean).PendingAt visited i ↔
      visited = [] ∧ (∃ r, p.slotAt i = some r ∧ r.site ≠ site ∧ r.channel ≠ home ∧ r.blocked = false ∧
        i ∉ visited) ∧ ∃ c r, p.engine.cand = some c ∧ p.find c.site = some (i, r) := by
  obtain ⟨-, hengine, -⟩ := Part.burstDone_unset h0 h1 b mean
  have hfind (c : Candidate) := (p.burstDone_places b mean).find_at c.site i
  unfold Part.PendingAt
  rw [hengine]
  refine and_congr_right (fun hv => ?_)
  subst hv
  rw [Part.burstDone_visitable hs hc]
  simp only [exists_and_left, hfind]

/-- Settles O34: the last sample by `exec_lastSample`; the gap after it by `Part.considerHomeGap_stops` and
`Part.considerHomeGap_starts`, its record chosen among those the crediting leaves fit. -/
theorem servingBurstIsCreditedAndAGapStarts : Obligations.ServingBurstIsCreditedAndAGapStarts := by
  unfold Obligations.ServingBurstIsCreditedAndAGapStarts
  refine ⟨?_, ?_⟩
  · intro s b code _ hconv hwait hburst hphase hlast q mean
    have hrun : exec (.rssiConversionDone code) s =
        .next (s.withPart (s.part.burstDone b mean).considerHomeGap.finish) :=
      exec_lastSample code hconv hwait hburst hphase hlast
    clear_value mean
    obtain ⟨hb, hidle, hparams, haff, hlines, -⟩ := s.part.burstDone_blocks b mean
    obtain ⟨hb', hc'⟩ := Part.considerHomeGap_noBurst hb
    obtain ⟨htable, haff', -, -, -, -, hbat, -⟩ := (s.part.burstDone b mean).considerHomeGap_stays
    have hkeeps : (s.part.burstDone b mean).considerHomeGap.params = (s.part.burstDone b mean).params := by simp
    have hbattery (p : Part) : p.finish.lines.battery = p.lines.battery := by simp [Part.finish]
    refine ⟨_, hrun, ?_⟩
    simp only [State.withPart, Part.finish_blocks, hbattery, hb', hc', hidle, haff', haff, hkeeps, hparams, hbat, hlines,
      Part.slotAt_of_table htable, Part.slotAt_of_table (Part.finish_blocks _).2.1, Part.burstDone_slotAt, and_self,
      implies_true]
  · intro s b w site home code _ hconv hwait hburst hphase hlast hgap hwork hkind hs hc hh hptr h0 h1 fits permitted
      pending
    have hrun := exec_lastSample code hconv hwait hburst hphase hlast
    generalize (b.run.sum + levelOfCode s.part.params code) / b.run.count = mean at hrun
    obtain ⟨hb, hidle, hparams, haff, hlines, htuning⟩ := s.part.burstDone_blocks b mean
    obtain ⟨hsched, hengine, hsup⟩ := Part.burstDone_unset h0 h1 b mean
    have hwork' : (s.part.burstDone b mean).sched.work = some w := by rw [hsched]; exact hwork
    have hgap' : (s.part.burstDone b mean).sched.gap = none := by rw [hsched]; exact hgap
    have hvisit := Part.burstDone_visitable hs hc b mean w.visited
    have hallowed := Part.burstDone_allowed h0 h1 b mean w
    have hpending := Part.burstDone_pending hs hc h0 h1 b mean w.visited
    refine ⟨fun hstop => ?_, fun i r fromPending hpermit hslot hchoice => ?_⟩
    · have hstops : ¬ (s.part.burstDone b mean).GapAllowed w ∨ (s.part.burstDone b mean).chooseVisit w = none :=
        hstop.imp (fun h => mt hallowed.1 h) (fun h => Part.chooseVisit_none (fun i r hv => h i ((hvisit i).1 ⟨r, hv⟩)))
      refine ⟨_, hrun, ?_⟩
      rw [Part.considerHomeGap_stops hwork' hkind hb hgap' hstops]
      simp [State.withPart, Part.skipGaps, hgap', htuning]
    · obtain ⟨x, hx, hchannel, hfresh⟩ : ∃ x, (s.part.burstDone b mean).slotAt i = some x ∧ x.channel = r.channel ∧
          ∀ f inStep, freshGap s.part.params i x (if x.confirm.isSome = true then .short else .long) f inStep =
            freshGap s.part.params i r (if r.confirm.isSome = true then .short else .long) f inStep := by
        rw [Part.burstDone_slotAt, hslot]
        by_cases hcredited : b.standing = true ∧ r.site = b.site
        · exact ⟨r.credited s.part.params mean, by simp [hcredited], rfl, fun _ _ => rfl⟩
        · exact ⟨r, by simp [hcredited], rfl, fun _ _ => rfl⟩
      have hchosen : (s.part.burstDone b mean).chooseVisit w = some ((i, x), fromPending) := by
        rcases hchoice with ⟨rfl, hp⟩ | ⟨rfl, hnone, hfirst⟩
        · exact Part.chooseVisit_pending ((hpending i).2 hp) hx
        · refine Part.chooseVisit_first (fun j => mt (hpending j).1 (hnone j)) (by rw [hsched]; exact hptr) ?_ hx
          simp only [hsched, hvisit]
          exact hfirst
      refine ⟨_, hrun, ?_⟩
      rw [Part.considerHomeGap_starts hwork' hkind hb hgap' (hallowed.2 hpermit) hchosen,
        Part.startHomeGap_free fromPending (by simp [htuning, hh]) (by simp [hb]) (by simp [haff, hs])]
      have hconserve : w.visited ≠ [] →
          (s.part.burstDone b mean).passFirstGap.sched.conserve = s.part.sched.conserve := fun hv => by
        rw [Part.passFirstGap_conserve hwork' hkind, if_neg (by simp [hv]), hsched]
      simp [State.withPart, Part.finish_mute, Part.gapBegun, hparams, hengine, hsup, htuning, hfresh, hchannel]
      split
      · rfl
      · exact hconserve ‹_›

end Sys2Proof.Machine
end

section
/-! SUPPORT. What the evaluation of a round comes to (R82 to R93), and what it and the asking for work leave of the
engine (R42, R77). -/

namespace Sys2Proof.Machine

/-! ### The outcomes of an evaluation -/

/-- What an evaluation comes to: marks alone, a freeze by a watch, a handover begun, or the radio in NONE. -/
inductive Part.Evaluated (p : Part) : Part → Prop
  | marked (cand : Option Candidate) (owed : Bool) :
      p.Evaluated { p with engine.cand := cand, engine.releaseOwed := owed }
  | held (slot : Nat) :
      p.Evaluated (({ p with engine.cand := none } : Part).freezeWatch slot)
  | begun (target : Nat) (cause : Cause) (owed : Bool) (h : p.aff.serving.isSome = true) :
      p.Evaluated
        (({ p with engine.cand := none, engine.releaseOwed := owed } : Part).beginHandover target cause true)
  | left (site : Nat) (h : p.aff.serving = some site) :
      p.Evaluated (({ p with engine.releaseOwed := false } : Part).goNone .noTarget)

theorem Part.Evaluated.refl (p : Part) : p.Evaluated p := .marked p.engine.cand p.engine.releaseOwed

/-- A select check of a cause other than ACQUIRE passes, or freezes for the slot that holds the selection (R98). -/
theorem Part.selectCheck_cases {p q : Part} {site : Nat} {cause : Cause} {passes : Bool} (hc : cause ≠ .acquire)
    (h : p.selectCheck site cause = (passes, q)) :
    (passes = true ∧ q = p) ∨ (passes = false ∧ ∃ slot, q = p.freezeWatch slot) := by
  cases hs : p.engine.holdingSlot site with
  | none =>
    rw [Part.selectCheck_passes hc hs] at h
    cases h
    exact .inl ⟨rfl, rfl⟩
  | some slot =>
    rw [Part.selectCheck_held hc hs] at h
    cases h
    exact .inr ⟨rfl, slot, rfl⟩

/-- The causes of the quality judgement are those whose handover can go back (R86). -/
theorem Part.condition_canReturn {p : Part} {serving q best : Nat} {c : Cause}
    (h : p.condition serving q best = some c) : c.canReturn = true := by
  unfold Part.condition at h
  (repeat' split at h) <;> cases h <;> rfl

theorem Part.condition_cause {p : Part} {serving q best : Nat} {c : Cause} (h : p.condition serving q best = some c) :
    c ≠ .acquire := by
  rintro rfl
  cases Part.condition_canReturn h

theorem Part.handOff_evaluated {p : Part} (site : Nat) {cause : Cause} (hc : cause ≠ .acquire)
    (hs : p.aff.serving.isSome = true) : p.Evaluated (p.handOff site cause) := by
  unfold Part.handOff
  split
  · rename_i q h
    rcases Part.selectCheck_cases hc h with ⟨-, rfl⟩ | ⟨h, -⟩
    · exact .begun site cause p.engine.releaseOwed hs
    · cases h
  · rename_i q h
    rcases Part.selectCheck_cases hc h with ⟨h, -⟩ | ⟨-, slot, rfl⟩
    · cases h
    · exact .held slot

theorem Part.judge_evaluated {p : Part} (serving : SiteRecord) (l : Level) (hs : p.aff.serving.isSome = true) :
    p.Evaluated (p.judge serving l) := by
  unfold Part.judge
  split
  · exact .marked none p.engine.releaseOwed
  · split
    · exact .marked none p.engine.releaseOwed
    · rename_i cause h
      dsimp only
      split
      · exact Part.handOff_evaluated _ (Part.condition_cause h) hs
      · exact .marked (some _) p.engine.releaseOwed

theorem Part.selectForLoss_evaluated {p : Part} {site : Nat} (hs : p.aff.serving = some site) :
    p.Evaluated p.selectForLoss := by
  unfold Part.selectForLoss
  split
  · dsimp only
    split
    · exact .marked p.engine.cand false
    · exact .left site hs
  · split
    · rename_i q h
      rcases Part.selectCheck_cases (by decide) h with ⟨-, rfl⟩ | ⟨h, -⟩
      · exact .begun _ .loss false (by simp [hs])
      · cases h
    · rename_i q h
      rcases Part.selectCheck_cases (by decide) h with ⟨h, -⟩ | ⟨-, slot, rfl⟩
      · cases h
      · exact .held slot

theorem Part.evaluate_evaluated (p : Part) : p.Evaluated p.evaluate := by
  unfold Part.evaluate
  split
  · exact .refl p
  · rename_i site hs
    split
    · exact .refl p
    · split
      · exact Part.selectForLoss_evaluated hs
      · split
        · split
          · exact Part.judge_evaluated _ _ (by simp [hs])
          · exact .refl p
        · exact .refl p

/-- With no serving site there is nothing to evaluate (R82). -/
theorem Part.evaluate_none {p : Part} (h : p.aff.serving = none) : p.evaluate = p := by
  unfold Part.evaluate; rw [h]

/-- With no loss to answer the evaluation is the quality judgement (R82, R83). -/
theorem Part.evaluate_judge {p : Part} {site : Nat} {r : SiteRecord} {l : Level} (hs : p.aff.serving = some site)
    (hc : p.aff.ctx = none) (hm : p.aff.machine = .registered) (ho : p.lossOwed = false) (hr : p.record site = some r)
    (hl : r.level = some l) : p.evaluate = p.judge r l := by
  simp [Part.evaluate, hs, hc, hm, ho, hr, hl]

/-! ### What a handover's begin and the asking for work leave of the engine -/

theorem Part.startHomeGap_engine (w : RoundWork) (x : Nat × SiteRecord) (fromPending : Bool) (p : Part) :
    (p.startHomeGap w x fromPending).engine = p.engine := by
  unfold Part.startHomeGap Part.noteGap
  dsimp only
  split <;> simp

@[simp] theorem Part.considerHomeGap_engine (p : Part) : p.considerHomeGap.engine = p.engine := by
  unfold Part.considerHomeGap Part.skipGaps
  split
  · split
    · dsimp only
      (repeat' split) <;> simp [Part.startHomeGap_engine]
    · rfl
  · rfl

@[simp] theorem Part.considerHunt_engine (p : Part) : p.considerHunt.engine = p.engine := by
  unfold Part.considerHunt Part.skipGaps
  dsimp only
  (repeat' split) <;> simp

/-- The asking for work reaches no field of the engine (R42). -/
@[simp] theorem Part.requestWork_engine (p : Part) : p.requestWork.engine = p.engine := by
  unfold Part.requestWork Part.skipGaps Part.startBurst
  dsimp only
  (repeat' split) <;> simp

@[simp] theorem Part.abortHomeGap_engine (p : Part) : p.abortHomeGap.engine = p.engine := by
  unfold Part.abortHomeGap Part.gapTuneHome
  (repeat' split) <;> simp

@[simp] theorem Part.goTune_engine (ctx : Context) (p : Part) : (p.goTune ctx).engine = p.engine := by
  unfold Part.goTune
  dsimp only
  split <;> simp [Part.suspend]

/-- The begin of a handover clears the candidate and no more of the engine (R125). -/
theorem Part.beginHandover_engine (target : Nat) (cause : Cause) (ofRound : Bool) {p : Part}
    (h : p.engine.cand = none) : (p.beginHandover target cause ofRound).engine = p.engine := by
  unfold Part.beginHandover
  dsimp only
  (repeat' split) <;> simp [← h]

/-! ### What every evaluation keeps -/

@[simp] theorem Part.goNone_aff (cause : NoServiceCause) (p : Part) :
    (p.goNone cause).aff.serving = none ∧ (p.goNone cause).aff.ctx = none ∧
      (p.goNone cause).engine.holdoff = p.engine.holdoff := by
  simp [Part.goNone]

/-- A handover that is turned down changes nothing; one that begins has its context (R125). -/
theorem Part.beginHandover_ctx (target : Nat) (cause : Cause) (ofRound : Bool) (p : Part) :
    p.beginHandover target cause ofRound = p ∨ (p.beginHandover target cause ofRound).aff.ctx.isSome = true := by
  unfold Part.beginHandover
  dsimp only
  split
  · exact .inl rfl
  · right
    split
    · simp
    · unfold Part.goTune
      dsimp only
      split <;> simp [Part.suspend]

@[simp] theorem Part.goTune_serving (ctx : Context) (p : Part) : (p.goTune ctx).aff.serving = p.aff.serving := by
  unfold Part.goTune
  dsimp only
  split <;> simp [Part.suspend]

@[simp] theorem Part.beginHandover_serving (target : Nat) (cause : Cause) (ofRound : Bool) (p : Part) :
    (p.beginHandover target cause ofRound).aff.serving = p.aff.serving := by
  unfold Part.beginHandover
  dsimp only
  (repeat' split) <;> simp

theorem Part.beginHandover_holdoff (target : Nat) (cause : Cause) (ofRound : Bool) (p : Part) :
    (p.beginHandover target cause ofRound).engine.holdoff = p.engine.holdoff := by
  unfold Part.beginHandover
  dsimp only
  (repeat' split) <;> simp

/-- The holdoff counter is the round update's alone (R81). -/
theorem Part.Evaluated.holdoff {p q : Part} (h : p.Evaluated q) : q.engine.holdoff = p.engine.holdoff := by
  cases h with
  | marked => rfl
  | held slot => simp
  | begun => exact Part.beginHandover_holdoff _ _ _ _
  | left => simp

/-- The table is the evaluation's only where the radio goes to NONE, and then by R15 alone (R93, R132). -/
theorem Part.Evaluated.table {p q : Part} (h : p.Evaluated q) :
    (q.table = p.table ∧ q.aff.serving = p.aff.serving) ∨
      ∃ site, p.aff.serving = some site ∧ q.aff.serving = none ∧
        q.table = (({ p with aff.serving := none } : Part).makeOrdinary (some site)).table := by
  cases h with
  | marked => exact .inl ⟨rfl, rfl⟩
  | held slot => exact .inl (by simp)
  | begun => exact .inl (by simp)
  | left site hs =>
    refine .inr ⟨site, hs, by simp, ?_⟩
    have ho (r : Part) (old : Option Nat) (owed : Bool) :
        (({ r with engine.releaseOwed := owed } : Part).makeOrdinary old).table = (r.makeOrdinary old).table := by
      unfold Part.makeOrdinary
      show (match old.bind r.record with
        | some x => _
        | none => _ : Part).table = _
      cases old.bind r.record <;> rfl
    simp only [Part.goNone, hs]
    simp [ho { p with aff.serving := none }]

/-- An evaluation that leaves serving site and no context has begun nothing: the blocks below the engine are as they
were. -/
theorem Part.Evaluated.unbegun {p q : Part} (h : p.Evaluated q) (hs : q.aff.serving.isSome = true)
    (hc : q.aff.ctx = none) :
    q.tuning = p.tuning ∧ q.aff = p.aff ∧ q.lines = p.lines ∧ q.conv = p.conv ∧ q.sched.burst = p.sched.burst ∧
      q.sched.gap = p.sched.gap := by
  cases h with
  | marked => exact ⟨rfl, rfl, rfl, rfl, rfl, rfl⟩
  | held slot => simp
  | begun target cause owed =>
    rcases Part.beginHandover_ctx target cause true { p with engine.cand := none, engine.releaseOwed := owed }
      with h | h
    · rw [h]; exact ⟨rfl, rfl, rfl, rfl, rfl, rfl⟩
    · simp [hc] at h
  | left => simp at hs

/-! ### The round timer -/

/-- An engine in RUNNING has its round timer at its full period (R77, R153). -/
def Part.RoundTimed (p : Part) : Prop :=
  p.engine.state = .running → p.engine.roundTimer = some p.params.roundMs

theorem Part.roundTimed_of {p q : Part} (h : p.RoundTimed) (hs : q.engine.state = p.engine.state)
    (ht : q.engine.roundTimer = p.engine.roundTimer) (hp : q.params = p.params) : q.RoundTimed := by
  unfold Part.RoundTimed at h ⊢
  rwa [hs, ht, hp]

theorem Part.freezeWatch_timed (slot : Nat) (p : Part) : (p.freezeWatch slot).RoundTimed := by
  unfold Part.RoundTimed Part.freezeWatch
  cases hs : p.engine.state with
  | frozen c => cases c <;> simp [hs, Part.endRound]; split <;> simp
  | _ => simp [Part.endRound]

theorem Part.engineReady_timed {p : Part} (h : p.RoundTimed) : p.engineReady.RoundTimed := by
  unfold Part.engineReady
  split
  · intro _; simp [Part.startRunning]
  · exact h

theorem Part.makeRetry_timed {p : Part} (h : p.RoundTimed) : p.makeRetry.RoundTimed := by
  unfold Part.makeRetry
  split
  · exact Part.roundTimed_of h (by simp) (by simp) (by simp)
  · exact Part.engineReady_timed h

theorem Part.freeReceiver_timed {p : Part} (h : p.RoundTimed) : p.freeReceiver.RoundTimed := by
  have hserve {q : Part} (hq : q.RoundTimed) : q.serveClients.RoundTimed :=
    Part.roundTimed_of hq (by simp) (by simp) (by simp)
  unfold Part.freeReceiver
  dsimp only
  split
  · split
    · exact Part.makeRetry_timed (by exact h)
    · exact hserve (Part.makeRetry_timed (by exact h))
  · exact hserve (by exact h)

theorem Part.releaseReceiver_timed (owner : Owner) {p : Part} (h : p.RoundTimed) :
    (p.releaseReceiver owner).RoundTimed := by
  have hc : (p.clearWaiting owner).RoundTimed := Part.roundTimed_of h (by simp) (by simp) (by simp)
  unfold Part.releaseReceiver
  dsimp only
  split
  · split
    · split
      · exact hc
      · exact Part.freeReceiver_timed hc
    · exact Part.freeReceiver_timed hc
  · exact hc

theorem Part.goNone_timed (cause : NoServiceCause) {p : Part} (h : p.RoundTimed) : (p.goNone cause).RoundTimed := by
  have hend {q : Part} (hq : q.RoundTimed) : q.endHomeGapNow.RoundTimed := by
    unfold Part.endHomeGapNow
    split
    · exact Part.releaseReceiver_timed (p := { q.stopRun with sched.gap := none }) .scheduler
        (Part.roundTimed_of hq (by simp) (by simp) (by simp))
    · exact hq
  have hnotice {q : Part} (n : Notice) (hq : q.RoundTimed) : (q.queueNotice n).RoundTimed :=
    Part.roundTimed_of hq (by simp) (by simp) (by simp)
  unfold Part.goNone
  refine hnotice _ (Part.releaseReceiver_timed .affiliation (Part.roundTimed_of (hend (q := _) ?_) rfl rfl rfl))
  exact Part.roundTimed_of h (by simp [Part.suspend]) (by simp [Part.suspend]) (by simp)

theorem Part.Evaluated.timed {p q : Part} (h : p.Evaluated q) (hp : p.RoundTimed) : q.RoundTimed := by
  cases h with
  | marked => exact hp
  | held slot => exact Part.freezeWatch_timed slot _
  | begun target cause owed =>
    exact Part.roundTimed_of hp (by rw [Part.beginHandover_engine _ _ _ rfl])
      (by rw [Part.beginHandover_engine _ _ _ rfl]) (by simp)
  | left => exact Part.goNone_timed .noTarget (by exact hp)

theorem Part.round_timed {p : Part} (h : p.RoundTimed) : p.round.RoundTimed := by
  have hq : p.countRound.evaluate.RoundTimed :=
    p.countRound.evaluate_evaluated.timed (Part.roundTimed_of h rfl rfl rfl)
  unfold Part.round
  dsimp only
  split
  · exact hq
  · exact Part.roundTimed_of hq (by simp) (by simp) (by simp)

end Sys2Proof.Machine
end

section
/-! SUPPORT. The counters of a round (R78 to R81), the end of its step, and the work it asks for (R42, R43, R55). -/

namespace Sys2Proof.Machine

/-! ### The counters -/

/-- A slot after the round update (R78 to R80). -/
theorem Part.slotAt_countRound (p : Part) (i : Nat) :
    p.countRound.slotAt i = (p.slotAt i).map (fun r =>
      r.roundCount p.params.confirmLife (p.aff.serving == some r.site || p.target == some r.site)) :=
  Part.slotAt_mapRecords _ p i

/-- The round update of a record is the one the statements name. -/
theorem SiteRecord.roundCount_later (life : Nat) (kept : Bool) (r : SiteRecord) :
    r.RoundLater (r.roundCount life kept) := by
  refine ⟨rfl, rfl, rfl, rfl, rfl, rfl, rfl, rfl, rfl, ?_⟩
  unfold SiteRecord.roundCount
  cases r.bar <;> rfl

theorem SiteRecord.roundCount_confirm (life : Nat) (kept : Bool) (r : SiteRecord) :
    (r.roundCount life kept).confirm = r.confirmLater life kept := by
  unfold SiteRecord.roundCount SiteRecord.confirmLater
  cases r.confirm with
  | none => rfl
  | some a => simp

theorem SiteRecord.RoundLater.unconfirmed {r q : SiteRecord} (h : r.RoundLater q) :
    r.RoundLater { q with confirm := none } := h

/-- The records of a round that keeps its serving site, or has none, are those of the round update. -/
theorem Part.slotAt_evaluated_kept {p q : Part} (h : p.countRound.Evaluated q) (hs : q.aff.serving = p.aff.serving)
    (i : Nat) : q.slotAt i = p.countRound.slotAt i := by
  rcases h.table with ⟨ht, -⟩ | ⟨site, h1, h2, -⟩
  · exact Part.slotAt_of_table ht i
  · rw [hs, show p.aff.serving = some site from h1] at h2
    cases h2

/-- The records of a round that takes the radio to NONE: the others on the channel left lose their confirmation too
(R15, R132). -/
theorem Part.slotAt_evaluated_left {p q : Part} {site : Nat} (h : p.countRound.Evaluated q)
    (hp : p.aff.serving = some site) (hs : q.aff.serving = none) (i : Nat) :
    q.slotAt i = (p.countRound.slotAt i).map (fun r =>
      if p.servingChannel = some r.channel ∧ r.site ≠ site then { r with confirm := none } else r) := by
  rcases h.table with ⟨-, h'⟩ | ⟨x, h1, -, ht⟩
  · rw [hs, show p.countRound.aff.serving = some site from hp] at h'
    cases h'
  · obtain rfl : site = x := Option.some.inj (hp.symm.trans h1)
    have hchannel : (p.countRound.record site).map SiteRecord.channel = p.servingChannel := by
      rw [p.countRound_places.channel site, Part.servingChannel, hp]
    rw [Part.slotAt_of_table ht, Part.slotAt_makeOrdinary]
    have hrecord : (({ p.countRound with aff.serving := none } : Part).record site).map SiteRecord.channel =
        p.servingChannel := hchannel
    simp only [hrecord]
    simp
    rfl

/-! ### The course of a round -/

theorem Part.round_requests {p : Part} (h : p.aff.serving = none ∨ p.countRound.evaluate.aff.serving.isSome = true) :
    p.round = p.countRound.evaluate.requestWork := by
  unfold Part.round
  rcases h with h | h
  · simp [h]
  · cases hq : p.countRound.evaluate.aff.serving with
    | none => simp [hq] at h
    | some x =>
      dsimp only
      rw [if_neg (by simp [hq])]

theorem Part.round_left {p : Part} (h : p.aff.serving.isSome = true)
    (hq : p.countRound.evaluate.aff.serving = none) : p.round = p.countRound.evaluate.skipGaps := by
  simp [Part.round, h, hq]

/-- A round's request for work touches neither table nor controller nor engine. -/
theorem Part.round_blocks (p : Part) :
    p.round.table = p.countRound.evaluate.table ∧ p.round.aff = p.countRound.evaluate.aff ∧
      p.round.engine = p.countRound.evaluate.engine := by
  unfold Part.round
  dsimp only
  split <;> simp [Part.skipGaps]

/-! ### The end of the step -/

/-- A part at the end of its step: a STEP round with no work left and no handover of its own has ended (R159). -/
structure Part.Ended (q f : Part) : Prop where
  params : f.params = q.params
  table : f.table = q.table
  tuning : f.tuning = q.tuning
  sched : f.sched = q.sched
  aff : f.aff = q.aff
  conv : f.conv = q.conv
  ptt : f.lines.ptt = q.lines.ptt
  emerg : f.lines.emerg = q.lines.emerg
  engine : f.engine = q.engine ∨
    q.engine.stepFlag = true ∧ q.sched.work = none ∧ (q.aff.ctx.map Context.inStep).getD false = false ∧
      f.engine = { q.engine with stepFlag := false, state := .halted }

theorem Part.finish_ended (q : Part) : q.Ended q.finish where
  params := by simp
  table := by simp
  tuning := by simp
  sched := by simp
  aff := by simp
  conv := by simp
  ptt := by simp [Part.finish]
  emerg := by simp [Part.finish]
  engine := by
    have he : q.finish.engine = q.endStepRound.engine := by simp [Part.finish]
    rw [he]
    unfold Part.endStepRound
    split
    · rename_i h
      simp only [Bool.and_eq_true, Bool.not_eq_true', Option.isNone_iff_eq_none] at h
      exact .inr ⟨h.1.1, h.1.2, h.2, by simp⟩
    · exact .inl rfl

theorem Part.placeReply_ended (r : Reply) (q : Part) : q.Ended (q.placeReply r) := by
  obtain ⟨h1, h2, h3, h4, h5, h6, h7, h8, h9⟩ :=
    ({ q with link.buffer := none, link.reply := some r } : Part).finish_ended
  exact ⟨h1, h2, h3, h4, h5, h6, h7, h8, h9⟩

theorem Part.Ended.cand {q f : Part} (h : q.Ended f) : f.engine.cand = q.engine.cand := by
  rcases h.engine with he | ⟨-, -, -, he⟩ <;> rw [he]

theorem Part.Ended.holdoff {q f : Part} (h : q.Ended f) : f.engine.holdoff = q.engine.holdoff := by
  rcases h.engine with he | ⟨-, -, -, he⟩ <;> rw [he]

/-- The step flag stands while the round has work, or a handover of its own. -/
theorem Part.Ended.stepFlag {q f : Part} (h : q.Ended f)
    (hq : q.sched.work.isSome = true ∨ (q.aff.ctx.map Context.inStep).getD false = true ∨ q.engine.stepFlag = false) :
    f.engine = q.engine := by
  rcases h.engine with he | ⟨hf, hw, hi, -⟩
  · exact he
  · simp [hf, hw, hi] at hq

theorem Part.Ended.timed {q f : Part} (h : q.Ended f) (hq : q.RoundTimed) : f.RoundTimed := by
  unfold Part.RoundTimed at hq ⊢
  rw [h.params]
  rcases h.engine with he | ⟨-, -, -, he⟩ <;> rw [he]
  · exact hq
  · intro h; cases h

/-- A step's end never sets the engine to work. -/
theorem Part.Ended.working {q f : Part} (h : q.Ended f) (hf : f.engine.working = true) : q.engine.working = true := by
  rcases h.engine with he | ⟨-, -, -, he⟩ <;> rw [he] at hf
  · exact hf
  · cases hf

/-! ### The work -/

/-- A gap is not to be had while PTT is active or the receiver is not HOME (R45). -/
theorem Part.considerHomeGap_shut {p : Part} (h : p.active .ptt = true ∨ p.tuning.position ≠ .home) :
    p.considerHomeGap = p ∨ p.considerHomeGap = p.passFirstGap.skipGaps := by
  have hshut (w : RoundWork) : p.passFirstGap.gapPermitted w = false := by
    have hptt : p.passFirstGap.active .ptt = p.active .ptt := by simp [Part.active]
    unfold Part.gapPermitted
    rw [hptt]
    rcases h with h | h <;> simp [h]
  unfold Part.considerHomeGap
  split
  · split
    · right; simp [hshut]
    · exact .inl rfl
  · exact .inl rfl

theorem Part.considerHomeGap_kept {p : Part} (h : p.active .ptt = true ∨ p.tuning.position ≠ .home) :
    p.considerHomeGap.tuning = p.tuning ∧ p.considerHomeGap.sched.burst = p.sched.burst ∧
      p.considerHomeGap.sched.gap = p.sched.gap := by
  rcases Part.considerHomeGap_shut h with h | h <;> rw [h] <;> simp [Part.skipGaps]

/-- With a burst or a HOME gap in flight the round's work is set aside (R42). -/
theorem Part.requestWork_busy {p : Part} (h : p.sched.burst.isSome = true ∨ p.homeGap = true) :
    p.requestWork = p.skipGaps := by
  unfold Part.requestWork
  rw [if_pos (by simpa using h)]

/-- The work of a HOME round, when the request is current (R42, R160). -/
def Part.homeWork (p : Part) : Part :=
  { p with sched.work := if p.engine.working = true then some ⟨.home, p.params.gaps, [], none⟩ else none }

/-- A HOME round begins with its serving burst, or comes at once to its first gap (R43). -/
theorem Part.requestWork_home {p : Part} {site : Nat} (hs : p.aff.serving = some site) (hb : p.sched.burst = none)
    (hg : p.homeGap = false) :
    p.requestWork =
      if p.active .ptt = false ∧ p.tuning.position = .home then p.homeWork.startBurst site
      else p.homeWork.considerHomeGap := by
  have hbusy : ¬ ((p.sched.burst.isSome || p.homeGap) = true) := by simp [hb, hg]
  have hcond : (!p.active .ptt && p.tuning.position == .home) = true ↔
      p.active .ptt = false ∧ p.tuning.position = .home := by simp
  unfold Part.requestWork
  rw [if_neg hbusy, hs]
  exact if_congr hcond rfl rfl

/-- With PTT active, or the receiver not HOME, no burst is taken and no gap started (R43, R45). -/
theorem Part.requestWork_shut {p : Part} {site : Nat} (hs : p.aff.serving = some site)
    (h : p.active .ptt = true ∨ p.tuning.position ≠ .home) :
    p.requestWork.tuning = p.tuning ∧ p.requestWork.sched.burst = p.sched.burst ∧
      p.requestWork.sched.gap = p.sched.gap ∧ (p.sched.gap = none → p.requestWork.sched.work = none) := by
  by_cases hbusy : p.sched.burst.isSome = true ∨ p.homeGap = true
  · rw [Part.requestWork_busy hbusy]
    exact ⟨rfl, rfl, rfl, fun _ => rfl⟩
  · simp only [not_or, Bool.not_eq_true, Option.isSome_eq_false_iff, Option.isNone_iff_eq_none] at hbusy
    obtain ⟨hb, hg⟩ := hbusy
    have hw : p.homeWork.active .ptt = true ∨ p.homeWork.tuning.position ≠ .home := h
    rw [Part.requestWork_home hs hb hg, if_neg (by rcases h with h | h <;> simp [h])]
    obtain ⟨h1, h2, h3⟩ := Part.considerHomeGap_kept hw
    refine ⟨h1, h2, h3, fun hgap => ?_⟩
    cases hwork : p.homeWork.sched.work with
    | none => simp [Part.considerHomeGap, hwork]
    | some w =>
      have hkind : w.kind = .home := by
        unfold Part.homeWork at hwork
        dsimp only at hwork
        split at hwork <;> cases hwork
        rfl
      have hnot : ¬ p.homeWork.GapAllowed w := by
        rintro ⟨hpos, hptt, -⟩
        rcases hw with h | h
        · exact absurd (h.symm.trans hptt) (by decide)
        · exact h hpos
      rw [Part.considerHomeGap_stops hwork hkind hb hgap (.inl hnot)]
      rfl

/-- A serving burst taken with the converter idle (R43, R176). -/
theorem Part.startBurst_idle {p : Part} (site : Nat) (h : p.conv.state = .idle) :
    p.startBurst site =
      { p with
        sched.burst := some ⟨site, ⟨p.params.samples, p.params.sampleMs, 0, 0, .converting⟩, true⟩
        conv.state := .rssi } := by
  simp [Part.startBurst, Part.askRssi, h, Part.takeRssi, Part.mapRun, SampleRun.begin]

/-- A serving burst that waits for the converter (R176). -/
theorem Part.startBurst_waits {p : Part} (site : Nat) (h : p.conv.state ≠ .idle) (hw : p.conv.waiting = none) :
    p.startBurst site =
      { p with
        sched.burst := some ⟨site, ⟨p.params.samples, p.params.sampleMs, 0, 0, .waiting⟩, true⟩
        conv.waiting := some .rssi } := by
  simp [Part.startBurst, Part.askRssi, h, Part.waitConverter, hw, SampleRun.begin]

/-! ### The hunt -/

theorem fromPointer_filter (ptr : Nat) (f : Nat → Bool) (l : List Nat) :
    fromPointer ptr (l.filter f) = (fromPointer ptr l).filter f := by
  simp only [fromPointer, List.filter_append, List.filter_filter, Bool.and_comm]

/-- A search finds the same among the entries that answer. -/
theorem findSome?_filter_answering {α : Type} (f : Nat → Option α) (l : List Nat) :
    (l.filter (fun i => (f i).isSome)).findSome? f = l.findSome? f := by
  induction l with
  | nil => rfl
  | cons a l ih =>
    cases h : f a with
    | none => simp [h, ih]
    | some x => simp [h]

/-- The search of a hunt, over the whole table or over the list of a STEP round (R55). -/
theorem Part.huntSearch (p : Part) (listed : Bool) :
    (fromPointer p.sched.huntPtr
      ((if listed = true then some ((List.range 24).filter (fun i => (p.huntFit i).isSome)) else none).getD
        (List.range 24))).findSome? p.huntFit =
      (fromPointer p.sched.huntPtr (List.range 24)).findSome? p.huntFit := by
  cases listed with
  | false => rfl
  | true =>
    simp only [if_true, Option.getD_some]
    rw [fromPointer_filter, findSome?_filter_answering]

theorem Part.huntFit_iff {p : Part} {i : Nat} {x : Nat × SiteRecord} :
    p.huntFit i = some x ↔ x.1 = i ∧ p.slotAt i = some x.2 ∧ x.2.blocked = false := by
  obtain ⟨j, q⟩ := x
  unfold Part.huntFit
  cases h : p.slotAt i with
  | none => simp
  | some r =>
    cases hb : r.blocked <;> simp only [Option.some.injEq] <;> grind

/-- The next gap of a hunt with a record to visit and the receiver free (R55). -/
theorem Part.considerHunt_starts {p : Part} {w : RoundWork} {x : Nat × SiteRecord} (hw : p.sched.work = some w)
    (hk : w.kind = .hunt) (hg : p.sched.gap = none) (ha : p.huntPermitted = true) (hh : p.tuning.holder = none)
    (hx : (fromPointer p.sched.huntPtr (w.toVisit.getD (List.range 24))).findSome? p.huntFit = some x) :
    ∃ left, p.considerHunt =
      ({ p with
        sched.gap := some (freshGap p.params x.1 x.2 .hunt false p.engine.stepFlag)
        sched.work := some { w with toVisit := left } } : Part).startOp .scheduler ⟨x.2.channel, .away⟩ := by
  refine ⟨w.toVisit.map (lookedAway (fromPointer p.sched.huntPtr (w.toVisit.getD (List.range 24))) x.1), ?_⟩
  unfold Part.considerHunt Part.requestTune
  simp only [hw, hk, hg, ha, hx, hh, beq_self_eq_true, Option.isNone_none, Bool.and_self, if_true]
  rfl

/-- A hunt with no record to visit has no work (R55). -/
theorem Part.considerHunt_stops {p : Part} {w : RoundWork} (hw : p.sched.work = some w) (hk : w.kind = .hunt)
    (hg : p.sched.gap = none)
    (hx : (fromPointer p.sched.huntPtr (w.toVisit.getD (List.range 24))).findSome? p.huntFit = none) :
    p.considerHunt = p.skipGaps := by
  unfold Part.considerHunt
  simp only [hw, hk, hg, hx, beq_self_eq_true, Option.isNone_none, Bool.and_self, if_true, ite_self]

/-- A tune that starts with no burst in flight leaves the scheduler alone (R29). -/
theorem Part.startOp_op {p : Part} (owner : Owner) (req : TuneReq) :
    (p.startOp owner req).tuning.op = some (freshOp p.params req.channel req.kind owner) := by
  unfold Part.startOp
  rw [Part.recomputePosition_tuning]
  rfl

theorem Part.startOp_sched {p : Part} (hb : p.sched.burst = none) (owner : Owner) (req : TuneReq) :
    (p.startOp owner req).sched = p.sched := by
  unfold Part.startOp
  rw [Part.recomputePosition_noBurst (by exact hb)]
  rfl

/-- The scheduler's asking for work in NONE, with nothing in flight and the receiver free (R42, R55). -/
structure Part.HuntOpen (p : Part) : Prop where
  serving : p.aff.serving = none
  machine : p.aff.machine = .none
  parked : p.tuning.position = .parked
  ptt : p.active .ptt = false
  tx : p.aff.tx = none
  burst : p.sched.burst = none
  gap : p.sched.gap = none
  free : p.tuning.holder = none
  working : p.engine.working = true

theorem Part.HuntOpen.permitted {p : Part} (h : p.HuntOpen) : p.huntPermitted = true := by
  simp [Part.huntPermitted, h.parked, h.ptt, h.tx, h.machine]

/-- The work of a hunt round, with the list of a STEP round (R55). -/
def Part.huntWork (p : Part) : RoundWork where
  kind := .hunt
  gapsLeft := 0
  visited := []
  toVisit := if p.engine.stepFlag = true then some ((List.range 24).filter (fun i => (p.huntFit i).isSome)) else none

theorem Part.requestWork_hunt {p : Part} (h : p.HuntOpen) :
    p.requestWork = ({ p with sched.work := some p.huntWork } : Part).considerHunt := by
  have hbusy : ¬ ((p.sched.burst.isSome || p.homeGap) = true) := by simp [h.burst, Part.homeGap, h.gap]
  unfold Part.requestWork
  dsimp only
  rw [if_neg hbusy, h.serving, if_pos h.working]
  rfl

/-- The hunt visits the first record from the hunt pointer that is not blocked (R55). -/
theorem Part.hunt_visits {p : Part} (h : p.HuntOpen) {i : Nat} {r : SiteRecord} (hptr : p.sched.huntPtr < 24)
    (hf : FirstFrom p.sched.huntPtr (fun j => ∃ r, p.slotAt j = some r ∧ r.blocked = false) i)
    (hr : p.slotAt i = some r) :
    p.requestWork.sched.gap = some (freshGap p.params i r .hunt false p.engine.stepFlag) ∧
      p.requestWork.sched.work.map RoundWork.kind = some .hunt ∧
      p.requestWork.tuning.op = some (freshOp p.params r.channel .away .scheduler) := by
  obtain ⟨q, hq, hblocked⟩ := hf.2.1
  obtain rfl : q = r := Option.some.inj (hq.symm.trans hr)
  have hfound : (fromPointer p.sched.huntPtr (p.huntWork.toVisit.getD (List.range 24))).findSome? p.huntFit =
      some (i, q) := by
    refine (p.huntSearch _).trans
      (findSome?_fromPointer hptr (fun j hj => ?_) hf (Part.huntFit_iff.2 ⟨rfl, hr, hblocked⟩))
    obtain ⟨x, hx⟩ := Option.isSome_iff_exists.1 hj
    exact ⟨x.2, (Part.huntFit_iff.1 hx).2⟩
  obtain ⟨left, hstart⟩ := Part.considerHunt_starts (p := { p with sched.work := some p.huntWork }) (w := p.huntWork)
    rfl rfl h.gap h.permitted h.free hfound
  rw [Part.requestWork_hunt h, hstart, Part.startOp_sched (by exact h.burst), Part.startOp_op]
  exact ⟨rfl, rfl, rfl⟩

/-- With every record blocked a hunt ends at once (R55). -/
theorem Part.hunt_ends {p : Part} (h : p.HuntOpen) (hno : ∀ i r, p.slotAt i = some r → r.blocked = true) :
    p.requestWork = p.skipGaps := by
  have hfound : (fromPointer p.sched.huntPtr (p.huntWork.toVisit.getD (List.range 24))).findSome? p.huntFit = none := by
    refine findSome?_fromPointer_none (fun j => Option.eq_none_iff_forall_ne_some.2 (fun x hx => ?_))
    obtain ⟨-, hslot, hblocked⟩ := Part.huntFit_iff.1 hx
    exact absurd (hno j x.2 hslot) (by simp [hblocked])
  rw [Part.requestWork_hunt h,
    Part.considerHunt_stops (p := { p with sched.work := some p.huntWork }) (w := p.huntWork) rfl rfl h.gap hfound]
  rfl

end Sys2Proof.Machine
end

section
/-! SUPPORT. The quality judgement of a round (R82 to R88, R98) and the round by timer and by STEP (R77, R158): the
statement O27. -/

namespace Sys2Proof.Machine

/-! ### The quality judgement -/

/-- The conditions in the order of R86, as the statements write them. -/
theorem Part.condition_eq (p : Part) (mine q best : Nat) :
    p.condition mine q best =
      if p.sup.state = .fading ∧ mine < best then some .fading
      else if q < p.params.floor ∧ mine < best then some .floor
      else if mine + (if p.active .emerg = true then p.params.hyst / 2 else p.params.hyst) ≤ best then some .better
      else none := by
  simp only [Part.condition, Bool.and_eq_true, decide_eq_true_eq]
  rfl

theorem Part.effectiveDwell_eq (p : Part) (c : Cause) :
    p.effectiveDwell c = if c = .fading ∨ p.active .emerg = true then 1 else p.params.dwell := by
  simp only [Part.effectiveDwell, Bool.or_eq_true, beq_iff_eq]

/-- The count of the pending candidate after a condition has held for a site (R87). -/
def countFor (old : Option Candidate) (site : Nat) : Nat :=
  match old with
  | some k => if k.site = site then min 15 (k.count + 1) else 1
  | none => 1

theorem nextCandidate_eq (old : Option Candidate) (site : Nat) (cause : Cause) :
    nextCandidate old site cause = ⟨site, countFor old site, cause⟩ := by
  unfold nextCandidate countFor
  cases old with
  | none => rfl
  | some k => dsimp only; split <;> rfl

/-- No best record, or none that meets a condition, clears the candidate (R87). -/
theorem Part.judge_clears {p : Part} {serving : SiteRecord} {l : Level}
    (h : ∀ i b, p.best = some (i, b) → p.condition (scoreOf p.params serving l) l.q (scoreKey p.params b) = none) :
    p.judge serving l = { p with engine.cand := none } := by
  unfold Part.judge
  split
  · rfl
  · rename_i i b hb
    rw [h i b hb]

/-- A condition that holds is counted until its count reaches the effective DWELL (R87). -/
theorem Part.judge_counts {p : Part} {serving b : SiteRecord} {l : Level} {i : Nat} {c : Cause}
    (hb : p.best = some (i, b))
    (hc : p.condition (scoreOf p.params serving l) l.q (scoreKey p.params b) = some c)
    (hn : countFor p.engine.cand b.site < p.effectiveDwell c) :
    p.judge serving l = { p with engine.cand := some ⟨b.site, countFor p.engine.cand b.site, c⟩ } := by
  unfold Part.judge
  simp only [hb, hc, nextCandidate_eq]
  rw [if_neg (by omega)]

/-- At the effective DWELL the candidate is handed over (R88). -/
theorem Part.judge_hands {p : Part} {serving b : SiteRecord} {l : Level} {i : Nat} {c : Cause}
    (hb : p.best = some (i, b))
    (hc : p.condition (scoreOf p.params serving l) l.q (scoreKey p.params b) = some c)
    (hn : p.effectiveDwell c ≤ countFor p.engine.cand b.site) :
    p.judge serving l = p.handOff b.site c := by
  unfold Part.judge
  simp only [hb, hc, nextCandidate_eq]
  rw [if_pos hn]

/-- A hand-off that no watch holds begins its handover (R88, R98). -/
theorem Part.handOff_passes {p : Part} {site : Nat} {cause : Cause} (hc : cause ≠ .acquire)
    (h : p.engine.holdingSlot site = none) :
    p.handOff site cause = ({ p with engine.cand := none } : Part).beginHandover site cause true := by
  unfold Part.handOff
  rw [Part.selectCheck_passes hc (by exact h)]

/-- A hand-off that a watch holds freezes the engine (R98). -/
theorem Part.handOff_held {p : Part} {site slot : Nat} {cause : Cause} (hc : cause ≠ .acquire)
    (h : p.engine.holdingSlot site = some slot) :
    p.handOff site cause = ({ p with engine.cand := none } : Part).freezeWatch slot := by
  unfold Part.handOff
  rw [Part.selectCheck_held hc (by exact h)]

/-- The engine that a watch freezes, but for one FROZEN by a tune fault (R155). -/
theorem Part.freezeWatch_engine {p : Part} (slot : Nat) (h : p.engine.state ≠ .frozen .tune) :
    (p.freezeWatch slot).engine.state = .frozen (.watch slot) ∧ (p.freezeWatch slot).engine.stepFlag = false ∧
      (p.freezeWatch slot).engine.roundTimer = none := by
  unfold Part.freezeWatch
  cases hs : p.engine.state with
  | frozen c =>
    cases c with
    | tune => exact absurd hs h
    | watch t =>
      dsimp only
      split
      · rename_i ht
        subst ht
        exact ⟨hs, rfl, rfl⟩
      · simp [Part.endRound]
  | halted => simp [Part.endRound]
  | running => simp [Part.endRound]

/-! ### The handover a judgement begins -/

/-- The context of a handover that is begun (R125). -/
theorem Part.beginHandover_begins {p : Part} {target : Nat} {cause : Cause} {ofRound : Bool} (hc : p.aff.ctx = none)
    (hs : p.aff.signingOff = false) :
    (p.beginHandover target cause ofRound).aff.ctx = some
      { target := target, cause := cause, oldServing := p.aff.serving, canReturn := cause.canReturn, attempts := 0,
        cls := none, tried := [], waiting := p.homeGap, inStep := p.engine.stepFlag && ofRound } := by
  unfold Part.beginHandover
  dsimp only
  rw [if_neg (by simp [hc, hs])]
  split
  · simp
  · rename_i h
    unfold Part.goTune
    dsimp only
    split <;> simp [Part.suspend, h]

/-- The tune away of a handover starts at once with the receiver free (R33, R125). -/
theorem Part.goTune_starts {p : Part} {ctx : Context} {r : SiteRecord} (hr : p.record ctx.target = some r)
    (hh : p.tuning.holder = none) (hs : p.aff.serving.isSome = true) :
    (p.goTune ctx).aff.machine = .hoTune ∧
      (p.goTune ctx).tuning.op = some (freshOp p.params r.channel .away .affiliation) ∧
      (p.goTune ctx).tuning.position = .away := by
  let q : Part := ((({ p with aff.ctx := some { ctx with waiting := false } } : Part).setMachine .hoTune).suspend)
  have hgo : p.goTune ctx = q.startOp .affiliation ⟨r.channel, .away⟩ := by
    have hrec : q.record ctx.target = some r := hr
    have hhold : q.tuning.holder = none := hh
    show (match q.record ctx.target with
      | some r => q.requestTune .affiliation ⟨r.channel, .away⟩
      | none => q) = _
    simp only [hrec, Part.requestTune, hhold]
  rw [hgo]
  refine ⟨by simp [q, Part.suspend], Part.startOp_op _ _, ?_⟩
  unfold Part.startOp
  rw [Part.recomputePosition_tuning]
  show Part.positionNow _ = _
  obtain ⟨site, hsite⟩ := Option.isSome_iff_exists.1 hs
  have hq : q.aff.serving = some site := by simp [q, Part.suspend, hsite]
  simp [Part.positionNow, hq]

/-! ### The part as a round finds it -/

/-- The part as the timer or STEP hands it to the round: the engine's own marks apart, and the marks of an earlier STEP
round (R158, log entry 13), it is the part before. -/
structure Part.Begins (s p : Part) : Prop where
  params : p.params = s.params
  table : p.table = s.table
  tuning : p.tuning = s.tuning
  lines : p.lines = s.lines
  conv : p.conv = s.conv
  sup : p.sup = s.sup
  burst : p.sched.burst = s.sched.burst
  huntPtr : p.sched.huntPtr = s.sched.huntPtr
  phase : p.sched.gap.map Gap.phase = s.sched.gap.map Gap.phase
  homeGap : p.homeGap = s.homeGap
  serving : p.aff.serving = s.aff.serving
  machine : p.aff.machine = s.aff.machine
  tx : p.aff.tx = s.aff.tx
  identity : p.aff.identity = s.aff.identity
  target : p.target = s.target
  noCtx : p.aff.ctx = none → s.aff.ctx = none
  aff : s.aff.ctx = none → p.aff = s.aff
  state : p.engine.state = s.engine.state
  cand : p.engine.cand = s.engine.cand
  holdoff : p.engine.holdoff = s.engine.holdoff
  owed : p.engine.releaseOwed = s.engine.releaseOwed
  watch0 : p.engine.watch0 = s.engine.watch0
  watch1 : p.engine.watch1 = s.engine.watch1

theorem Part.begins_timer (s : Part) (ms : Nat) : s.Begins { s with engine.roundTimer := some ms } :=
  ⟨rfl, rfl, rfl, rfl, rfl, rfl, rfl, rfl, rfl, rfl, rfl, rfl, rfl, rfl, rfl, id, fun _ => rfl, rfl, rfl, rfl, rfl, rfl,
    rfl⟩

theorem Part.begins_step (s : Part) : s.Begins s.beginStep where
  params := rfl
  table := rfl
  tuning := rfl
  lines := rfl
  conv := rfl
  sup := rfl
  burst := rfl
  huntPtr := rfl
  phase := by simp only [Part.beginStep, Option.map_map]; rfl
  homeGap := by
    unfold Part.homeGap Part.beginStep
    cases s.sched.gap <;> rfl
  serving := rfl
  machine := rfl
  tx := rfl
  identity := rfl
  target := by simp only [Part.target, Part.beginStep, Option.map_map]; rfl
  noCtx := by simp [Part.beginStep]
  aff := fun h => by
    have hmarks : s.aff.ctx.map (fun c => { c with inStep := false }) = s.aff.ctx := by rw [h]; rfl
    simp only [Part.beginStep, hmarks]
  state := rfl
  cand := rfl
  holdoff := rfl
  owed := rfl
  watch0 := rfl
  watch1 := rfl

section

variable {s p f : Part}

theorem Part.Begins.gapNone (hb : s.Begins p) (h : s.sched.gap = none) : p.sched.gap = none := by
  have := hb.phase
  rw [h] at this
  simpa using this

theorem Part.Begins.slotAt (hb : s.Begins p) (i : Nat) : p.slotAt i = s.slotAt i := Part.slotAt_of_table hb.table i

theorem Part.Begins.active (hb : s.Begins p) (i : Input) : p.active i = s.active i := by
  unfold Part.active; rw [hb.lines]

theorem Part.Begins.servingChannel (hb : s.Begins p) : p.servingChannel = s.servingChannel := by
  simp only [Part.servingChannel, Part.record, Part.find, Part.occupied, hb.serving, hb.table]

/-- The round update finds the same table from either part. -/
theorem Part.Begins.countRound_table (hb : s.Begins p) : p.countRound.table = s.countRound.table := by
  show p.countTable.table = s.countTable.table
  simp only [Part.countTable, Part.mapRecords, hb.table, hb.params, hb.serving, hb.target]

theorem Part.Begins.countRound_record (hb : s.Begins p) (site : Nat) :
    p.countRound.record site = s.countRound.record site := by
  simp only [Part.record, Part.find, Part.occupied, hb.countRound_table]

theorem Part.best_congr {p q : Part} (hp : q.params = p.params) (ht : q.table = p.table)
    (hs : q.aff.serving = p.aff.serving) (hh : q.engine.holdoff = p.engine.holdoff) : q.best = p.best := by
  have hfit : q.candidateFit = p.candidateFit := by
    funext r
    simp only [Part.candidateFit, Part.coChannel, Part.servingChannel, Part.record, Part.find, Part.occupied, hp, ht, hs]
  simp only [Part.best, Part.occupied, hp, ht, hh, hfit]

/-- The best record of the evaluation is the same from either part. -/
theorem Part.Begins.countRound_best (hb : s.Begins p) : p.countRound.best = s.countRound.best :=
  Part.best_congr hb.params hb.countRound_table hb.serving
    (show p.engine.holdoff - 1 = s.engine.holdoff - 1 by rw [hb.holdoff])

theorem Part.Begins.holdingSlot (hb : s.Begins p) (site : Nat) : p.engine.holdingSlot site = s.engine.holdingSlot site := by
  simp only [Engine.holdingSlot, hb.watch0, hb.watch1]

/-! ### What a round has changed at the end of its step -/

theorem Part.Ended.round_table (he : p.round.Ended f) : f.table = p.countRound.evaluate.table := by
  rw [he.table, p.round_blocks.1]

theorem Part.Ended.round_aff (he : p.round.Ended f) : f.aff = p.countRound.evaluate.aff := by
  rw [he.aff, p.round_blocks.2.1]

/-- The records of a round at the end of its step (R78 to R80, R132). -/
theorem Part.Begins.round_slot (hb : s.Begins p) (he : p.round.Ended f) {i : Nat} {r : SiteRecord}
    (hr : s.slotAt i = some r) :
    ∃ q, f.slotAt i = some q ∧ r.RoundLater q ∧
      q.confirm =
        if f.aff.serving = none ∧ s.servingChannel = some r.channel ∧ s.aff.serving ≠ some r.site then none
        else r.confirmLater s.params.confirmLife
          (decide (s.aff.serving = some r.site ∨ s.target = some r.site)) := by
  have hev := p.countRound.evaluate_evaluated
  let kept := p.aff.serving == some r.site || p.target == some r.site
  let counted := r.roundCount p.params.confirmLife kept
  have hcounted : p.countRound.slotAt i = some counted := by
    rw [Part.slotAt_countRound, hb.slotAt, hr]
    rfl
  have hlater : r.RoundLater counted := r.roundCount_later _ _
  have hconfirm : counted.confirm = r.confirmLater s.params.confirmLife
      (decide (s.aff.serving = some r.site ∨ s.target = some r.site)) := by
    have hkept : kept = decide (s.aff.serving = some r.site ∨ s.target = some r.site) := by
      simp only [kept, hb.serving, hb.target, Bool.decide_or, beq_eq_decide]
    rw [← hkept, ← hb.params]
    exact r.roundCount_confirm _ _
  have hslot : f.slotAt i = p.countRound.evaluate.slotAt i := Part.slotAt_of_table he.round_table i
  have hserving : f.aff.serving = p.countRound.evaluate.aff.serving := by rw [he.round_aff]
  rcases hev.table with ⟨-, hsame⟩ | ⟨site, hsite, hleft, -⟩
  · refine ⟨counted, ?_, hlater, ?_⟩
    · rw [hslot, Part.slotAt_evaluated_kept hev hsame, hcounted]
    · rw [if_neg, hconfirm]
      rintro ⟨hnone, hchannel, -⟩
      have : s.aff.serving = none := by rw [← hb.serving, ← hnone, hserving]; exact hsame.symm
      simp [Part.servingChannel, this] at hchannel
  · have hs : s.aff.serving = some site := by rw [← hb.serving]; exact hsite
    have hcond : (p.servingChannel = some counted.channel ∧ counted.site ≠ site) ↔
        (f.aff.serving = none ∧ s.servingChannel = some r.channel ∧ s.aff.serving ≠ some r.site) := by
      rw [hserving, hleft, hb.servingChannel, hs]
      show (_ = some r.channel ∧ r.site ≠ site) ↔ _
      simp only [true_and, ne_eq, Option.some.injEq, eq_comm (a := site)]
    rw [hslot, Part.slotAt_evaluated_left hev hsite hleft, hcounted, Option.map_some]
    by_cases h : p.servingChannel = some counted.channel ∧ counted.site ≠ site
    · rw [if_pos h, if_pos (hcond.1 h)]
      exact ⟨_, rfl, hlater.unconfirmed, rfl⟩
    · rw [if_neg h, if_neg (mt hcond.2 h)]
      exact ⟨_, rfl, hlater, hconfirm⟩

theorem Part.Begins.round_empty (hb : s.Begins p) (he : p.round.Ended f) {i : Nat} (hi : s.slotAt i = none) :
    f.slotAt i = none := by
  have hcounted : p.countRound.slotAt i = none := by rw [Part.slotAt_countRound, hb.slotAt, hi]; rfl
  have hplaces := p.countRound.evaluate_places.slotAt i
  rw [hcounted] at hplaces
  rw [Part.slotAt_of_table he.round_table]
  simpa using hplaces

/-- A round that takes the radio to NONE has no work (log entry 7). -/
theorem Part.Begins.round_left (hb : s.Begins p) (he : p.round.Ended f) (hs : s.aff.serving.isSome = true)
    (hf : f.aff.serving = none) : f.sched.work = none := by
  rw [he.sched, Part.round_left (by rw [hb.serving]; exact hs) (by rw [← he.round_aff]; exact hf)]
  rfl

theorem Part.Begins.round_holdoff (hb : s.Begins p) (he : p.round.Ended f) :
    f.engine.holdoff = s.engine.holdoff - 1 := by
  rw [he.holdoff, p.round_blocks.2.2, p.countRound.evaluate_evaluated.holdoff, ← hb.holdoff]
  rfl

end

end Sys2Proof.Machine
end

section
/-! SUPPORT. What a round's evaluation and its asking for work come to at the end of the step (R42, R43, R55, R82 to
R88, R98), and the statement O27. -/

namespace Sys2Proof.Machine

/-! ### The quality judgement of a round -/

/-- The evaluation of a round is the quality judgement of the serving record by its level (R82, R83). -/
structure Part.Judged (s : Part) (site : Nat) (r : SiteRecord) (l : Level) : Prop where
  serving : s.aff.serving = some site
  noCtx : s.aff.ctx = none
  machine : s.aff.machine = .registered
  owed : s.engine.releaseOwed = false
  notLost : s.sup.state ≠ .lost ∨ s.params.mode = .fixed
  record : s.countRound.record site = some r
  level : r.level = some l

section

variable {s p f : Part} {site : Nat} {r : SiteRecord} {l : Level}

theorem Part.Begins.evaluate_judge (hb : s.Begins p) (hj : s.Judged site r l) :
    p.countRound.evaluate = p.countRound.judge r l := by
  have hctx : p.aff.ctx = none := by rw [hb.aff hj.noCtx]; exact hj.noCtx
  have howed : p.countRound.lossOwed = false := by
    show (p.engine.releaseOwed || (p.sup.state == .lost && p.params.mode == .auto)) = false
    rw [hb.owed, hj.owed, hb.sup, hb.params]
    rcases hj.notLost with h | h <;> simp [h]
  exact Part.evaluate_judge (hb.serving.trans hj.serving) hctx (hb.machine.trans hj.machine) howed
    ((hb.countRound_record site).trans hj.record) hj.level

/-- The condition a best record meets, as the statements write it (R86). -/
def Part.causeFor (s : Part) (r : SiteRecord) (l : Level) (best : Nat) : Option Cause :=
  if s.sup.state = .fading ∧ scoreOf s.params r l < best then some .fading
  else if l.f16 / 16 < s.params.floor ∧ scoreOf s.params r l < best then some .floor
  else if scoreOf s.params r l + (if s.active .emerg = true then s.params.hyst / 2 else s.params.hyst) ≤ best then
    some .better
  else none

theorem Part.Begins.condition (hb : s.Begins p) (best : Nat) :
    p.countRound.condition (scoreOf p.countRound.params r l) l.q best = s.causeFor r l best := by
  have hp : p.countRound.params = s.params := hb.params
  have hs : p.countRound.sup = s.sup := hb.sup
  have ha : p.countRound.active .emerg = s.active .emerg := hb.active .emerg
  rw [Part.condition_eq, hp, hs, ha]
  rfl

/-- A judgement with no best record, or none that meets a condition (R87). -/
theorem Part.Begins.round_clears (hb : s.Begins p) (he : p.round.Ended f) (hj : s.Judged site r l)
    (h : ∀ i b, s.countRound.best = some (i, b) → s.causeFor r l (scoreKey s.params b) = none) :
    f.engine.cand = none ∧ f.aff = s.aff := by
  have hjudge : p.countRound.evaluate = { p.countRound with engine.cand := none } := by
    refine (hb.evaluate_judge hj).trans (Part.judge_clears (fun i b hbest => ?_))
    rw [hb.condition, show p.countRound.params = s.params from hb.params]
    exact h i b (hb.countRound_best ▸ hbest)
  rw [he.cand, p.round_blocks.2.2, he.round_aff, hjudge]
  exact ⟨rfl, hb.aff hj.noCtx⟩

section

variable {i : Nat} {b : SiteRecord} {c : Cause}

/-- The condition that holds for the best record, from the part that the round judges. -/
theorem Part.Begins.holds (hb : s.Begins p) (hc : s.causeFor r l (scoreKey s.params b) = some c) :
    p.countRound.condition (scoreOf p.countRound.params r l) l.q (scoreKey p.countRound.params b) = some c := by
  rw [hb.condition, show p.countRound.params = s.params from hb.params, hc]

theorem Part.Begins.countFor (hb : s.Begins p) (x : Nat) :
    countFor p.countRound.engine.cand x = countFor s.engine.cand x := by
  show Machine.countFor p.engine.cand x = _
  rw [hb.cand]

theorem Part.Begins.effectiveDwell (hb : s.Begins p) (c : Cause) :
    p.countRound.effectiveDwell c = s.effectiveDwell c := by
  have ha : p.countRound.active .emerg = s.active .emerg := hb.active .emerg
  rw [Part.effectiveDwell_eq, Part.effectiveDwell_eq, ha, show p.countRound.params = s.params from hb.params]

/-- A judgement that counts a candidate short of the effective DWELL (R87). -/
theorem Part.Begins.round_counts (hb : s.Begins p) (he : p.round.Ended f) (hj : s.Judged site r l)
    (hbest : s.countRound.best = some (i, b)) (hc : s.causeFor r l (scoreKey s.params b) = some c)
    (hn : Machine.countFor s.engine.cand b.site < s.effectiveDwell c) :
    f.engine.cand = some ⟨b.site, Machine.countFor s.engine.cand b.site, c⟩ ∧ f.aff = s.aff := by
  have hjudge := Part.judge_counts (hb.countRound_best.trans hbest) (hb.holds hc)
    (by rw [hb.countFor, hb.effectiveDwell]; exact hn)
  rw [← hb.evaluate_judge hj, hb.countFor] at hjudge
  rw [he.cand, p.round_blocks.2.2, he.round_aff, hjudge]
  exact ⟨rfl, hb.aff hj.noCtx⟩

/-- A judgement that reaches the effective DWELL is a hand-off (R88). -/
theorem Part.Begins.evaluate_handOff (hb : s.Begins p) (hj : s.Judged site r l)
    (hbest : s.countRound.best = some (i, b)) (hc : s.causeFor r l (scoreKey s.params b) = some c)
    (hn : s.effectiveDwell c ≤ Machine.countFor s.engine.cand b.site) :
    p.countRound.evaluate = p.countRound.handOff b.site c :=
  (hb.evaluate_judge hj).trans (Part.judge_hands (hb.countRound_best.trans hbest) (hb.holds hc)
    (by rw [hb.countFor, hb.effectiveDwell]; exact hn))

end

/-! ### The hand-off of a round -/

theorem Part.beginHandover_tunes {q : Part} {target : Nat} {cause : Cause} {ofRound : Bool} {b : SiteRecord}
    (hc : q.aff.ctx = none) (hs : q.aff.signingOff = false) (hg : q.homeGap = false) (hr : q.record target = some b)
    (hh : q.tuning.holder = none) (hserving : q.aff.serving.isSome = true) :
    (q.beginHandover target cause ofRound).aff.machine = .hoTune ∧
      (q.beginHandover target cause ofRound).tuning.op = some (freshOp q.params b.channel .away .affiliation) ∧
      (q.beginHandover target cause ofRound).tuning.position = .away := by
  rw [Part.beginHandover_free target cause ofRound hc hs hg]
  exact Part.goTune_starts (by exact hr) (by exact hh) (by exact hserving)

theorem Part.handOff_cand {q : Part} (x : Nat) {c : Cause} (hc : c ≠ .acquire) : (q.handOff x c).engine.cand = none := by
  cases h : q.engine.holdingSlot x with
  | none => rw [Part.handOff_passes hc h, Part.beginHandover_engine _ _ _ rfl]
  | some slot => rw [Part.handOff_held hc h]; simp

/-- A hand-off that no watch holds has begun its handover at the end of the step (R88, R125). -/
theorem Part.Begins.round_begins (hb : s.Begins p) (he : p.round.Ended f) {x : Nat} {c : Cause} (hc : c ≠ .acquire)
    (hctx : s.aff.ctx = none) (hs : s.aff.signingOff = false) (hslot : s.engine.holdingSlot x = none)
    (hev : p.countRound.evaluate = p.countRound.handOff x c) :
    f.aff.ctx = some
      { target := x, cause := c, oldServing := s.aff.serving, canReturn := c.canReturn, attempts := 0, cls := none,
        tried := [], waiting := s.homeGap, inStep := f.engine.stepFlag } := by
  have haff := hb.aff hctx
  have hpass := hev.trans (Part.handOff_passes hc ((hb.holdingSlot x).trans hslot))
  have hbegun : p.countRound.evaluate.aff.ctx = some
      { target := x, cause := c, oldServing := p.aff.serving, canReturn := c.canReturn, attempts := 0, cls := none,
        tried := [], waiting := p.homeGap, inStep := p.engine.stepFlag && true } := by
    rw [hpass]
    exact Part.beginHandover_begins (show p.aff.ctx = none by rw [haff, hctx])
      (show p.aff.signingOff = false by rw [haff, hs])
  have hflag : p.round.engine.stepFlag = p.engine.stepFlag := by
    rw [p.round_blocks.2.2, hpass, Part.beginHandover_engine _ _ _ rfl]
    rfl
  have hengine : f.engine = p.round.engine := by
    refine he.stepFlag ?_
    rw [p.round_blocks.2.1, hbegun, hflag]
    cases p.engine.stepFlag <;> simp
  rw [he.round_aff, hbegun, hengine, hflag, hb.serving, hb.homeGap, Bool.and_true]

/-- With no HOME gap to end and the receiver free its tune away has started (R33, R125). -/
theorem Part.Begins.round_tunes (hb : s.Begins p) (he : p.round.Ended f) {x : Nat} {c : Cause} {b : SiteRecord}
    (hc : c ≠ .acquire) (hctx : s.aff.ctx = none) (hs : s.aff.signingOff = false)
    (hslot : s.engine.holdingSlot x = none) (hev : p.countRound.evaluate = p.countRound.handOff x c)
    (hserving : s.aff.serving = some site) (hg : s.homeGap = false) (hh : s.tuning.holder = none)
    (hr : s.countRound.record x = some b) :
    f.aff.machine = .hoTune ∧ f.tuning.op = some (freshOp s.params b.channel .away .affiliation) := by
  have haff := hb.aff hctx
  have hpass := hev.trans (Part.handOff_passes hc ((hb.holdingSlot x).trans hslot))
  have hserves : ({ p.countRound with engine.cand := none } : Part).aff.serving = some site := hb.serving.trans hserving
  obtain ⟨hmachine, hop, hpos⟩ := Part.beginHandover_tunes (q := { p.countRound with engine.cand := none }) (target := x)
    (cause := c) (ofRound := true) (show p.aff.ctx = none by rw [haff, hctx])
    (show p.aff.signingOff = false by rw [haff, hs]) (show p.homeGap = false by rw [hb.homeGap, hg])
    ((hb.countRound_record x).trans hr) (show p.tuning.holder = none by rw [hb.tuning, hh])
    (by rw [hserves]; rfl)
  rw [← hpass] at hmachine hop hpos
  have hserves' : p.countRound.evaluate.aff.serving = some site := by rw [hpass, Part.beginHandover_serving, hserves]
  have hround := Part.round_requests (p := p) (.inr (by simp [hserves']))
  have htuning := (Part.requestWork_shut hserves' (.inr (by simp [hpos]))).1
  rw [he.round_aff, he.tuning, hround, htuning, hmachine, hop, show p.countRound.params = s.params from hb.params]
  exact ⟨rfl, rfl⟩

/-- A hand-off that a watch holds has frozen the engine at the end of the step (R98, R155). -/
theorem Part.Begins.round_held (hb : s.Begins p) (he : p.round.Ended f) {x slot : Nat} {c : Cause}
    (hc : c ≠ .acquire) (hctx : s.aff.ctx = none) (hslot : s.engine.holdingSlot x = some slot)
    (hstate : s.engine.state ≠ .frozen .tune) (hev : p.countRound.evaluate = p.countRound.handOff x c) :
    f.aff = s.aff ∧ f.engine.state = .frozen (.watch slot) ∧ f.engine.stepFlag = false ∧
      f.engine.roundTimer = none := by
  have hheld := hev.trans (Part.handOff_held hc ((hb.holdingSlot x).trans hslot))
  obtain ⟨h1, h2, h3⟩ := Part.freezeWatch_engine (p := { p.countRound with engine.cand := none }) slot
    (show p.engine.state ≠ .frozen .tune by rw [hb.state]; exact hstate)
  rw [← hheld, ← p.round_blocks.2.2] at h1 h2 h3
  rw [he.stepFlag (.inr (.inr h2)), he.round_aff, hheld, ← hb.aff hctx]
  exact ⟨by simp; rfl, h1, h2, h3⟩

/-! ### The work a round asks for -/

theorem Part.startBurst_work {q : Part} (x : Nat) (h : q.conv.waiting = none) :
    (q.startBurst x).sched.work = q.sched.work := by
  by_cases hc : q.conv.state = .idle
  · rw [Part.startBurst_idle x hc]
  · rw [Part.startBurst_waits x hc h]

/-- What a round that begins no handover asks for work with: but for the engine it is the part before (R42). -/
structure Part.AsksWith (s p q : Part) (site : Nat) : Prop where
  requests : p.round = q.requestWork
  params : q.params = s.params
  tuning : q.tuning = s.tuning
  serving : q.aff.serving = some site
  lines : q.lines = s.lines
  conv : q.conv = s.conv
  burst : q.sched.burst = s.sched.burst
  gap : q.sched.gap = p.sched.gap

theorem Part.Begins.asksWith (hb : s.Begins p) (he : p.round.Ended f) (hf : f.aff.serving = some site)
    (hc : f.aff.ctx = none) : s.AsksWith p p.countRound.evaluate site := by
  rw [he.round_aff] at hf hc
  have hsome : p.countRound.evaluate.aff.serving.isSome = true := by rw [hf]; rfl
  obtain ⟨htuning, -, hlines, hconv, hburst, hgap⟩ := p.countRound.evaluate_evaluated.unbegun hsome hc
  exact
    { requests := Part.round_requests (.inr hsome)
      params := (p.countRound.evaluate_keeps.1).trans hb.params
      tuning := htuning.trans hb.tuning
      serving := hf
      lines := hlines.trans hb.lines
      conv := hconv.trans hb.conv
      burst := hburst.trans hb.burst
      gap := hgap }

theorem Part.homeGap_of_gap {q q' : Part} (h : q'.sched.gap = q.sched.gap) : q'.homeGap = q.homeGap := by
  simp only [Part.homeGap, h]

section

variable {q : Part}

theorem Part.AsksWith.active (ha : s.AsksWith p q site) (i : Input) : q.active i = s.active i := by
  unfold Part.active; rw [ha.lines]

/-- With nothing in flight, PTT inactive and the receiver HOME a round begins with its serving burst (R43). -/
theorem Part.Begins.round_burst (hb : s.Begins p) (ha : s.AsksWith p q site) (hburst : s.sched.burst = none)
    (hg : s.homeGap = false) (hptt : s.active .ptt = false) (hpos : s.tuning.position = .home) :
    p.round = q.homeWork.startBurst site := by
  have hg' : q.homeGap = false := by rw [Part.homeGap_of_gap ha.gap, hb.homeGap, hg]
  rw [ha.requests, Part.requestWork_home ha.serving (by rw [ha.burst, hburst]) hg',
    if_pos ⟨by rw [ha.active, hptt], by rw [ha.tuning, hpos]⟩]

/-- With a burst or a gap in flight, PTT active or the receiver not HOME a round has no work (R42, R43, R45). -/
theorem Part.Begins.round_idle (hb : s.Begins p) (ha : s.AsksWith p q site)
    (h : s.sched.burst.isSome = true ∨ s.homeGap = true ∨
      (s.sched.gap = none ∧ (s.active .ptt = true ∨ s.tuning.position ≠ .home))) :
    p.round.sched.work = none ∧ p.round.sched.burst = s.sched.burst ∧ p.round.sched.gap = p.sched.gap ∧
      p.round.tuning = s.tuning := by
  rw [ha.requests]
  by_cases hbusy : q.sched.burst.isSome = true ∨ q.homeGap = true
  · rw [Part.requestWork_busy hbusy]
    exact ⟨rfl, ha.burst, ha.gap, ha.tuning⟩
  · rw [ha.burst, Part.homeGap_of_gap ha.gap, hb.homeGap] at hbusy
    obtain ⟨hgap, hshut⟩ : s.sched.gap = none ∧ (s.active .ptt = true ∨ s.tuning.position ≠ .home) := by tauto
    obtain ⟨h1, h2, h3, h4⟩ := Part.requestWork_shut ha.serving (by rw [ha.active, ha.tuning]; exact hshut)
    exact ⟨h4 (by rw [ha.gap]; exact hb.gapNone hgap), h2.trans ha.burst, h3.trans ha.gap, h1.trans ha.tuning⟩

end

/-- In NONE with nothing in flight a round hunts (R55). -/
theorem Part.Begins.huntOpen (hb : s.Begins p) (hw : p.engine.working = true) (hs : s.aff.serving = none)
    (hm : s.aff.machine = .none) (hpos : s.tuning.position = .parked) (hptt : s.active .ptt = false)
    (htx : s.aff.tx = none) (hburst : s.sched.burst = none) (hg : s.sched.gap = none) (hh : s.tuning.holder = none) :
    p.countRound.HuntOpen where
  serving := hb.serving.trans hs
  machine := hb.machine.trans hm
  parked := by show p.tuning.position = .parked; rw [hb.tuning, hpos]
  ptt := (hb.active .ptt).trans hptt
  tx := hb.tx.trans htx
  burst := hb.burst.trans hburst
  gap := hb.gapNone hg
  free := by show p.tuning.holder = none; rw [hb.tuning, hh]
  working := hw

theorem Part.HuntOpen.round (ho : p.countRound.HuntOpen) : p.round = p.countRound.requestWork := by
  have hev : p.countRound.evaluate = p.countRound := Part.evaluate_none ho.serving
  rw [Part.round_requests (p := p) (.inl ho.serving), hev]

end

/-- Settles O27: the records by the round update and the outcomes of the evaluation (`Part.Evaluated`), the judgement by
`Part.judge`'s three outcomes, and the work by what the scheduler is asked with. -/
theorem aRoundCountsJudgesAndAsksForWork : Obligations.ARoundCountsJudgesAndAsksForWork := by
  unfold Obligations.ARoundCountsJudgesAndAsksForWork
  intro moved judged asked hunts
  have hround (s t : State) (p : Part) (hb : s.part.Begins p) (hw : p.engine.working = true)
      (he : p.round.Ended t.part) : moved s t ∧ judged s t ∧ asked s t ∧ hunts s t := by
    refine ⟨?_, ?_, ?_, ?_⟩
    · refine ⟨fun i r hr => hb.round_slot he hr, fun i hi => hb.round_empty he hi, hb.round_holdoff he,
        hb.round_left he, ?_, ?_, ?_, ?_⟩
      · rw [he.params, p.round_keeps.1, hb.params]
      · rw [he.aff, p.round_keeps.2.2.1, hb.identity]
      · rw [he.ptt, p.round_keeps.2.2.2.2.2.1, hb.lines]
      · rw [he.emerg, p.round_keeps.2.2.2.2.2.2.2.1, hb.lines]
    · intro site r l hs hctx hm ho hlost hr hl ps emergency mine cause
      have hj : s.part.Judged site r l := ⟨hs, hctx, hm, ho, hlost, hr, hl⟩
      refine ⟨hb.round_clears he hj, ?_⟩
      intro i b c hbest hc count dwell
      have hholds := hb.holds (r := r) (l := l) hc
      have hc' : c ≠ .acquire := Part.condition_cause hholds
      have hdwell : s.part.effectiveDwell c = dwell := s.part.effectiveDwell_eq c
      refine ⟨fun hn => hb.round_counts he hj hbest hc (hdwell ▸ hn), fun hn => ?_⟩
      have hev := hb.evaluate_handOff hj hbest hc (hdwell ▸ hn)
      refine ⟨?_, fun hslot hsign => ⟨?_, fun hg hh hrec => ?_⟩, fun slot hslot hstate => ?_⟩
      · rw [he.cand, p.round_blocks.2.2, hev, Part.handOff_cand _ hc']
      · rw [hb.round_begins he hc' hctx hsign hslot hev, hs, Part.condition_canReturn hholds]
      · exact hb.round_tunes he hc' hctx hsign hslot hev hs hg hh hrec
      · exact hb.round_held he hc' hctx hslot hstate hev
    · intro site _ hts htctx
      have ha := hb.asksWith he hts htctx
      refine ⟨?_, fun h => ?_⟩
      · intro hburst hg hptt hpos hwait burst
        let q := p.countRound.evaluate.homeWork
        have hr : p.round = q.startBurst site := hb.round_burst ha hburst hg hptt hpos
        have hconv : q.conv = s.part.conv := ha.conv
        have hparams : q.params = s.part.params := ha.params
        have hwait' : q.conv.waiting = none := by rw [hconv, hwait]
        refine ⟨fun hworking => ?_, fun hidle => ?_, fun hbusy => ?_⟩
        · have hworks : p.countRound.evaluate.engine.working = true := by
            rw [← p.round_blocks.2.2]
            exact he.working (by simpa [Engine.working] using hworking)
          rw [he.sched, hr, Part.startBurst_work _ hwait', ← hparams]
          exact if_pos hworks
        · rw [he.sched, he.conv, hr, Part.startBurst_idle site (by rw [hconv, hidle]), hparams]
          exact ⟨rfl, rfl⟩
        · rw [he.sched, he.conv, hr, Part.startBurst_waits site (by rw [hconv]; exact hbusy) hwait', hparams, hconv]
          exact ⟨rfl, rfl, rfl⟩
      · obtain ⟨h1, h2, h3, h4⟩ := hb.round_idle ha h
        rw [he.sched, he.tuning, h1, h2, h3, h4, hb.phase]
        exact ⟨rfl, rfl, rfl, rfl⟩
    · intro hs hm hpos hptt htx hburst hg hh fits
      have ho := hb.huntOpen hw hs hm hpos hptt htx hburst hg hh
      have hslots (j : Nat) : t.part.slotAt j = p.countRound.slotAt j :=
        Part.slotAt_of_table (by rw [he.round_table, Part.evaluate_none ho.serving]) j
      have hptr : p.countRound.sched.huntPtr = s.part.sched.huntPtr := hb.huntPtr
      have hparams : p.countRound.params = s.part.params := hb.params
      refine ⟨fun i r hf hr hlt => ?_, fun hno => ?_⟩
      · have hfirst : FirstFrom p.countRound.sched.huntPtr
            (fun j => ∃ r, p.countRound.slotAt j = some r ∧ r.blocked = false) i := by
          simp only [hptr, ← hslots]
          exact hf
        obtain ⟨h1, h2, h3⟩ := Part.hunt_visits ho (hptr ▸ hlt) hfirst (by rw [← hslots, hr])
        rw [← ho.round] at h1 h2 h3
        have hengine : t.part.engine = p.round.engine := he.stepFlag (.inl (by
          cases h : p.round.sched.work with
          | none => simp [h] at h2
          | some w => rfl))
        have hflag : p.round.engine = p.countRound.engine := by
          rw [p.round_blocks.2.2, Part.evaluate_none ho.serving]
        rw [he.sched, he.tuning, h1, h2, h3, hengine, hflag, hparams]
        exact ⟨rfl, rfl, rfl⟩
      · have hblocked (i : Nat) (r : SiteRecord) (hr : p.countRound.slotAt i = some r) : r.blocked = true := by
          by_contra hfree
          exact hno i ⟨r, by rw [hslots, hr], by simpa using hfree⟩
        rw [he.sched, he.tuning, ho.round, Part.hunt_ends ho hblocked]
        exact ⟨ho.gap, rfl, by show p.tuning.op = _; rw [hb.tuning]⟩
  refine ⟨fun s hrun htimer => ?_, fun s tag htag hhears hflag hstate hpending hid => ?_⟩
  · let p : Part := { s.part with engine.roundTimer := some s.part.params.roundMs }
    have he := p.round.finish_ended
    have hworking : p.engine.working = true := by simp [p, Engine.working, hrun]
    refine ⟨s.withPart p.round.finish, ?_, ?_⟩
    · show execRoundExpiry s = _
      rw [execRoundExpiry, if_pos (by simp [hrun, htimer])]
      rfl
    · obtain ⟨h1, h2, h3, h4⟩ := hround s (s.withPart p.round.finish) p (s.part.begins_timer _) hworking he
      refine ⟨h1, h2, h3, h4, fun hrunning => ?_⟩
      have htimed : p.round.RoundTimed := Part.round_timed (fun _ => rfl)
      have hparams : p.round.finish.params = s.part.params := by simp [p]
      rw [← hparams]
      exact he.timed htimed hrunning
  · let p := s.part.beginStep
    have he := p.round.placeReply_ended ⟨0x8B, tag, .ok, []⟩
    have hworking : p.engine.working = true := by simp [p, Part.beginStep, Engine.working]
    have hstep : answerStep [] s.part = p.round.ok [] := by
      simp [answerStep, Part.stepEngine, hflag, hstate, hpending, Option.isSome_iff_ne_none.1 hid, p]
    refine ⟨s.withPart (p.round.placeReply ⟨0x8B, tag, .ok, []⟩), ?_, Part.placeReply_reply _ _,
      hround s _ p s.part.begins_step hworking he⟩
    show Host.Outcome.next (s.withPart (s.part.command 0x0B [tag] answerStep)) = _
    rw [Part.command_of_hears hhears htag, hstep]
    rfl

end Sys2Proof.Machine
end

section
/-! SUPPORT. What every step leaves (R39, R117, R159, R185): the end of a step settles the part, and what does not end a
step touches nothing that it settles. The statement O57. -/

namespace Sys2Proof.Machine

/-! ### The end of a step -/

/-- Whatever a part owed, the end of a step has settled it. -/
theorem Part.finish_settled (p : Part) : p.finish.settledOutside = true := by
  have live : p.endStepRound.stepRoundLive = true := by
    unfold Part.endStepRound
    split
    · simp [Part.stepRoundLive]
    · rename_i h
      simp only [Bool.and_eq_true, Bool.not_eq_true', Option.isNone_iff_eq_none] at h
      simp only [Part.stepRoundLive, Bool.or_eq_true, Bool.not_eq_true', Option.isSome_iff_ne_none]
      grind
  have fed (q : Part) : q.startSending.transmitterFed = true := by
    unfold Part.startSending Part.transmitterFed
    (repeat' split) <;> simp_all
  have sent : p.endStepRound.startSending.stepRoundLive = true :=
    Part.live_congr live (by simp) (by simp) (by simp)
  simp only [Part.settledOutside, Bool.and_eq_true]
  exact ⟨⟨sent, fed _⟩, Part.driveOutputs_driven _⟩

/-! ### Records and bytes -/

theorem Part.placeReply_settled (r : Reply) (p : Part) : (p.placeReply r).settledOutside = true :=
  Part.finish_settled _

/-- A record is discarded, waits in the buffer, or is interpreted to the end of a step (R182). -/
theorem Part.interpret_settled {p : Part} (item : RxItem) (f : Part → Part × Reply) (h : p.settledOutside = true) :
    (p.interpret item f).settledOutside = true := by
  unfold Part.interpret
  split
  · exact h
  · split
    · exact h
    · exact Part.placeReply_settled _ _

theorem Part.interpretDue_settled {p : Part} (h : p.settledOutside = true) : p.interpretDue.settledOutside = true := by
  unfold Part.interpretDue
  split
  · exact Part.interpret_settled _ _ (by exact h)
  · exact h

/-- A byte on LRX touches the receiver and its buffer alone (R181). -/
theorem Part.receive_settled {p : Part} (b : Byte) (h : p.settledOutside = true) :
    (p.receive b).settledOutside = true := by
  unfold Part.receive Part.endFrame Part.framingError
  (repeat' split) <;> exact h

theorem Part.recordSent_settled {p : Part} (h : p.settledOutside = true) : p.recordSent.settledOutside = true := by
  unfold Part.recordSent
  split
  · exact h
  · exact Part.finish_settled _
  · exact Part.finish_settled _

/-- A part after power-on has nothing in flight and its outputs as R177 gives. -/
theorem Part.resetWhole_settled (p : Part) : p.resetWhole.settledOutside = true := rfl

/-! ### The converter -/

theorem Part.mapRun_settled {p : Part} (f : SampleRun → SampleRun) (h : p.settledOutside = true) :
    (p.mapRun f).settledOutside = true := by
  unfold Part.mapRun
  split <;> exact h

/-- The battery's request reaches the converter and the battery timer alone (R176). -/
theorem Part.askBattery_settled {p : Part} (h : p.settledOutside = true) : p.askBattery.settledOutside = true := by
  unfold Part.askBattery Part.waitConverter Part.takeBattery
  (repeat' split) <;> exact h

/-! ### Every command -/

/-- A step that owes nothing after it, where nothing was owed before it. -/
def KeepsSettled (s : State) (o : Host.Outcome State Fault Refusal) : Prop :=
  ∃ t, o = .next t ∧ (s.part.settledOutside = true → t.part.settledOutside = true)

theorem keepsSettled_same (s : State) : KeepsSettled s (.next s) := ⟨s, rfl, id⟩

theorem keepsSettled_of {s : State} {q : Part} (h : s.part.settledOutside = true → q.settledOutside = true) :
    KeepsSettled s (.next (s.withPart q)) := ⟨_, rfl, h⟩

theorem keepsSettled_finish (s : State) (q : Part) : KeepsSettled s (.next (s.withPart q.finish)) :=
  keepsSettled_of (fun _ => q.finish_settled)

theorem keepsSettled_command (s : State) (kind : Byte) (payload : List Byte) (f : List Byte → Part → Answer) :
    KeepsSettled s (.next (s.withPart (s.part.command kind payload f))) :=
  keepsSettled_of (Part.interpret_settled _ _)

/-- A command that can happen ends its step, or changes nothing that the end of a step settles. -/
theorem exec_keepsSettled (c : Instr) (s : State) : KeepsSettled s (exec c s) := by
  cases c with
  | info payload | paramSet payload | paramGet payload | identity payload | sitePut payload | siteDrop payload
  | siteGet payload | siteList payload | run payload | halt payload | step payload | cont payload
  | watchSet payload | watchClear payload | move payload | airIn payload | airSent payload | linesSet payload
  | linesRead payload | request payload | signOff payload | status payload | notices payload | reset payload =>
    exact keepsSettled_command s _ payload _
  | frameError cause => exact keepsSettled_of (Part.interpret_settled _ _)
  | unknown kind payload =>
    show KeepsSettled s (execUnknown kind payload s)
    unfold execUnknown
    split
    · exact keepsSettled_same s
    · exact keepsSettled_of (Part.interpret_settled _ _)
  | lrxByte b => exact keepsSettled_of (fun h => Part.interpretDue_settled (Part.receive_settled b h))
  | linkGapExpiry =>
    show KeepsSettled s (execLinkGapExpiry s)
    unfold execLinkGapExpiry
    split
    · exact keepsSettled_of (fun h => Part.interpretDue_settled (by exact h))
    · exact keepsSettled_same s
  | recordSent => exact keepsSettled_of Part.recordSent_settled
  | powerOn | resetLine => exact keepsSettled_of (fun _ => s.part.resetWhole_settled)
  | lockBlankEnd active =>
    show KeepsSettled s (execLockBlankEnd active s)
    unfold execLockBlankEnd
    (repeat' split)
    · exact keepsSettled_finish s _
    · exact keepsSettled_of id
    · exact keepsSettled_same s
    · exact keepsSettled_same s
  | sampleTimerExpiry =>
    show KeepsSettled s (execSampleTimerExpiry s)
    unfold execSampleTimerExpiry
    split
    · exact keepsSettled_of (Part.mapRun_settled _)
    · exact keepsSettled_same s
  | batteryTimerExpiry =>
    show KeepsSettled s (execBatteryTimerExpiry s)
    unfold execBatteryTimerExpiry
    split
    · exact keepsSettled_of (fun h => Part.askBattery_settled (by exact h))
    · exact keepsSettled_same s
  | shiftLatchDone | lock | lockWaitExpiry | settleExpiry | roundExpiry | rssiConversionDone _ | listenExpiry
  | batteryConversionDone _ | inputEdge _ _ | debounceExpiry _ | intervalExpiry | beaconWaitExpiry
  | grantWaitExpiry | txWaitExpiry =>
    simp only [exec, execShiftLatchDone, execLock, execLockWaitExpiry, execSettleExpiry, execRoundExpiry,
      execRssiConversionDone, execListenExpiry, execBatteryConversionDone, execInputEdge, execDebounceExpiry,
      execIntervalExpiry, execBeaconWaitExpiry, execGrantWaitExpiry, execTxWaitExpiry]
    (repeat' split) <;> first | exact keepsSettled_finish s _ | exact keepsSettled_same s

/-- Settles O57: each command keeps what the end of a step settles, by `exec_keepsSettled`. -/
theorem stepsOweNothingBetween : Obligations.StepsOweNothingBetween := by
  unfold Obligations.StepsOweNothingBetween
  intro s t hs ht
  unfold step at ht
  split at ht
  · rename_i c rest _
    obtain ⟨u, hu, hk⟩ := exec_keepsSettled c { s with pending := rest }
    rw [hu] at ht
    cases ht
    exact hk hs
  · cases ht
    exact hs

end Sys2Proof.Machine
end

section
/-! SUPPORT. The ranges of the level arithmetic (R60, R65, R66, R70) and the tuning words that tell channels apart (R26):
the statement O36. -/

namespace Sys2Proof.Machine

theorem clampInt_toNat_le (v low : Int) (high : Nat) (h : low ≤ high) : (clampInt v low high).toNat ≤ high := by
  unfold clampInt
  (repeat' split) <;> omega

theorem levelOfCode_le (ps : Params) (code : Byte) : levelOfCode ps code ≤ 240 :=
  clampInt_toNat_le _ 0 240 (by decide)

theorem scoreOf_le (ps : Params) (r : SiteRecord) (l : Level) : scoreOf ps r l ≤ 255 :=
  clampInt_toNat_le _ 0 255 (by decide)

/-- A gain of at most 16 sixteenths takes a rising level no further than the whole difference (R65). -/
theorem tdiv16_of_nonneg {d : Int} {k : Nat} (hd : 0 ≤ d) (hk : k ≤ 16) :
    0 ≤ (d * k).tdiv 16 ∧ (d * k).tdiv 16 ≤ d := by
  have hdk : 0 ≤ d * k := Int.mul_nonneg hd (by omega)
  have hle : d * k ≤ d * 16 := Int.mul_le_mul_of_nonneg_left (by omega) hd
  rw [Int.tdiv_eq_ediv_of_nonneg hdk]
  omega

/-- The step of a falling level is that of the rising one, with the sign changed: the fraction is discarded whatever the
sign (R65). -/
theorem tdiv16_of_nonpos {d : Int} {k : Nat} (hd : d ≤ 0) (hk : k ≤ 16) :
    d ≤ (d * k).tdiv 16 ∧ (d * k).tdiv 16 ≤ 0 := by
  have h := tdiv16_of_nonneg (d := -d) (by omega) hk
  rw [Int.neg_mul, Int.neg_tdiv] at h
  omega

/-- The filtered level moves from its old value towards 16 times the mean, and not past it (R65, R66). -/
theorem filterLevel_between (ps : Params) (l : Level) (mean : Nat) (hup : ps.kUp ≤ 16) (hdown : ps.kDown ≤ 16) :
    min l.f16 (16 * mean) ≤ (filterLevel ps (some l) mean).f16 ∧
      (filterLevel ps (some l) mean).f16 ≤ max l.f16 (16 * mean) := by
  simp only [filterLevel, filterStep, filterGain]
  by_cases h : 0 ≤ 16 * (mean : Int) - l.f16
  · rw [if_pos h]
    have := tdiv16_of_nonneg h hup
    omega
  · rw [if_neg h]
    have := tdiv16_of_nonpos (by omega : 16 * (mean : Int) - l.f16 ≤ 0) hdown
    omega

/-- Prefix and channel fit side by side in the 24 bits of a tuning word (R26). -/
theorem tuningWord_toNat {synPrefix channel : Nat} (hp : synPrefix ≤ 16383) (hc : channel ≤ 1023) :
    (tuningWord synPrefix channel).toNat = synPrefix * 1024 + channel := by
  simp only [tuningWord, BitVec.toNat_ofNat]
  omega

theorem tuningWord_injective {a b c d : Nat} (ha : a ≤ 16383) (hb : b ≤ 1023) (hc : c ≤ 16383) (hd : d ≤ 1023)
    (h : tuningWord a b = tuningWord c d) : a = c ∧ b = d := by
  have hn := congrArg BitVec.toNat h
  rw [tuningWord_toNat ha hb, tuningWord_toNat hc hd] at hn
  omega

/-- Settles O36: the two clamps, the filter between its old value and the mean, and the injective tuning word. -/
theorem levelArithmeticStaysInRange : Obligations.LevelArithmeticStaysInRange := by
  unfold Obligations.LevelArithmeticStaysInRange
  exact ⟨levelOfCode_le, fun ps l mean _ hup _ hdown => filterLevel_between ps l mean hup hdown, scoreOf_le,
    fun _ _ _ _ => tuningWord_injective⟩

end Sys2Proof.Machine
end

section
/-! SUPPORT. The levels of a shift and latch (R26), and one tune attempt from its shift to its settling (R29 to R31): the
statement O29. -/

namespace Sys2Proof.Machine

/-! ### The levels of a shift -/

/-- The bits clocked out stand on TDAT at the rising edges of TCLK, whatever the lines showed before (R26). -/
theorem risingBits_clocked (bits : List Bool) (before : TuningPins) :
    risingBits (before :: (bits.flatMap clockLevels ++ [.low])) = bits := by
  induction bits generalizing before with
  | nil => simp [risingBits, TuningPins.low]
  | cons b bits ih =>
    have hrest := ih ⟨true, b, false⟩
    simp only [List.flatMap_cons, clockLevels, List.cons_append, List.nil_append] at hrest ⊢
    simp [risingBits, hrest]

/-- TLE stays low while bits are clocked out (R26). -/
theorem tle_of_clocked {bits : List Bool} {x : TuningPins} (h : x ∈ bits.flatMap clockLevels ++ [.low]) :
    x.tle = false := by
  simp only [List.mem_append, List.mem_flatMap, clockLevels, List.mem_cons, List.not_mem_nil, or_false] at h
  rcases h with ⟨b, -, rfl | rfl⟩ | rfl <;> rfl

/-- The most significant bit goes first (R26). -/
theorem wordBits_eq (w : TuningWord) : wordBits w = (List.range 24).map (fun i => w.getLsbD (23 - i)) := by
  refine List.map_congr_left (fun i hi => ?_)
  have := List.mem_range.1 hi
  simp [BitVec.getMsbD, this]

/-! ### The course of an attempt -/

/-- The lock with a settling time: the attempt settles (R31). -/
theorem Part.lockTaken_settles {p : Part} (op : TuneOp) (h : p.params.settleMs ≠ 0) :
    p.lockTaken op =
      { p with
        tuning.op := some { op with phase := .settling, lockWait := none, settle := some p.params.settleMs } } := by
  simp [Part.lockTaken, h]

/-- The latch of an attempt that goes on: the word in effect, the lines low, the lock wait started (R26, R29). -/
theorem Part.latch_proceeds {p : Part} {op : TuneOp} (h : op.atLatch = .proceed) :
    p.latch op =
      { p with
        tuning.latched := some op.word
        tuning.pins := .low
        tuning.driven := shiftLevels op.word
        tuning.op := some { op with phase := .blanking, lockWait := some p.params.lockWaitMs } } := by
  simp only [Part.latch, h, Part.shiftOut_eq]

/-- Settles O29: the levels bit by bit, and each event of the attempt by what it makes of the operation, which nothing
that the end of a step settles rests on. -/
theorem tuneAttemptRunsToSettling : Obligations.TuneAttemptRunsToSettling := by
  unfold Obligations.TuneAttemptRunsToSettling
  refine ⟨fun w => ⟨(wordBits w).flatMap clockLevels ++ [.low], ?_, ?_, fun _ => tle_of_clocked, ?_⟩,
    fun s op hs hop => ⟨fun hphase hlatch => ?_, fun hphase => ⟨?_, fun hsettle => ?_⟩, fun hphase hsettle => ?_,
      fun hphase => ?_⟩⟩
  · simp [shiftLevels, TuningPins.low]
  · rw [risingBits_clocked, wordBits_eq]
  · rw [List.getLast?_append_cons]; rfl
  · show execShiftLatchDone s = _
    simp only [execShiftLatchDone, hop, hphase, if_true, Part.latch_proceeds hlatch]
    rw [Part.finish_of_settled (by exact hs)]
    rfl
  · show execLockBlankEnd false s = _
    simp only [execLockBlankEnd, hop, hphase, if_true, Bool.false_eq_true, if_false]
  · show execLockBlankEnd true s = _
    simp only [execLockBlankEnd, hop, hphase, if_true, Part.lockTaken_settles op hsettle]
    rw [Part.finish_of_settled (by exact hs)]
  · show execLock s = _
    simp only [execLock, hop, hphase, if_true, Part.lockTaken_settles op hsettle]
    rw [Part.finish_of_settled (by exact hs)]
  · show execLock s = _
    simp only [execLock, hop, if_neg hphase]

end Sys2Proof.Machine
end

section
/-! SUPPORT. How a tune operation ends at the tuning unit (R28, R31, R32, R37), and what its outcome brings a handover
(R112, R126, R130): the statement O30. -/

namespace Sys2Proof.Machine

/-! ### The position as an operation ends -/

/-- A part away from HOME that comes to AWAY keeps its mark and its outputs (R28, R37, R39). -/
theorem Part.recomputePosition_toAway {p : Part} (hp : p.tuning.position ≠ .home) (hn : p.positionNow = .away)
    (hd : p.outputsDriven = true) : p.recomputePosition = { p with tuning.position := .away } := by
  rw [Part.recomputePosition_notHome hp, hn]
  simp only [beq_self_eq_true, Bool.and_true]
  exact Part.driveOutputs_of_driven (Part.driven_away hd hp (by simp) rfl rfl)

/-- A part away from HOME that comes to PARKED loses its mark and keeps its outputs (R28, R37, R39). -/
theorem Part.recomputePosition_toParked {p : Part} (hp : p.tuning.position ≠ .home) (hs : p.aff.serving = none)
    (hd : p.outputsDriven = true) :
    p.recomputePosition = { p with tuning.position := .parked, tuning.fault := false } := by
  have hn : p.positionNow = .parked := by simp [Part.positionNow, hs]
  have hno : (Position.parked == Position.away) = false := rfl
  rw [Part.recomputePosition_notHome hp, hn]
  simp only [hno, Bool.and_false]
  exact Part.driveOutputs_of_driven (Part.driven_away hd hp (by simp) rfl rfl)

/-- A receiver tuned to another channel than the serving one is AWAY (R28). -/
theorem Part.positionNow_elsewhere {p : Part} {home c : Nat} (hc : p.servingChannel = some home)
    (ht : p.tuning.tuned = some c) (h : c ≠ home) : p.positionNow = .away := by
  obtain ⟨site, hs⟩ := Option.isSome_iff_exists.1 (Part.serving_of_channel hc)
  simp [Part.positionNow, hs, hc, ht, h]

/-- A receiver tuned to the serving channel is HOME (R28). -/
theorem Part.positionNow_onChannel {p : Part} {home : Nat} (hc : p.servingChannel = some home)
    (ht : p.tuning.tuned = some home) : p.positionNow = .home := by
  obtain ⟨site, hs⟩ := Option.isSome_iff_exists.1 (Part.serving_of_channel hc)
  simp [Part.positionNow, hs, hc, ht]

/-- A tune that ends READY away from the serving channel (R28, R31). -/
theorem Part.endReady_elsewhere {p : Part} {op : TuneOp} {home : Nat} (hc : p.servingChannel = some home)
    (h : op.channel ≠ home) (hp : p.tuning.position ≠ .home) (hd : p.outputsDriven = true) :
    p.endReady op = { p with tuning.op := none, tuning.tuned := some op.channel, tuning.position := .away } :=
  Part.recomputePosition_toAway (p := { p with tuning.op := none, tuning.tuned := some op.channel }) hp
    (Part.positionNow_elsewhere (by exact hc) rfl h) hd

/-- A tune that ends READY with no serving site (R28, R31). -/
theorem Part.endReady_parked {p : Part} (op : TuneOp) (hs : p.aff.serving = none) (hp : p.tuning.position ≠ .home)
    (hd : p.outputsDriven = true) :
    p.endReady op =
      { p with
        tuning.op := none, tuning.tuned := some op.channel, tuning.position := .parked, tuning.fault := false } :=
  Part.recomputePosition_toParked (p := { p with tuning.op := none, tuning.tuned := some op.channel }) hp hs hd

/-- The tuning unit of a part whose tune home has ended READY: HOME, the mark clear (R28, R31, R37). -/
def Part.tunedHome (home : Nat) (p : Part) : Part :=
  { p with tuning.op := none, tuning.tuned := some home, tuning.position := .home, tuning.fault := false }

/-- The tuning unit of a part whose tune home has ended as a tune fault: AWAY with the mark set (R28, R37). -/
def Part.faultedAway (p : Part) : Part :=
  { p with tuning.op := none, tuning.position := .away, tuning.fault := true }

/-- A tune home that ends READY, with the outputs judged again (R28, R31, R37, R39). -/
theorem Part.endReady_home {p : Part} {op : TuneOp} {home : Nat} (hc : p.servingChannel = some home)
    (h : op.channel = home) : p.endReady op = (p.tunedHome home).driveOutputs := by
  subst h
  exact Part.recomputePosition_home (p := { p with tuning.op := none, tuning.tuned := some op.channel })
    (Part.positionNow_onChannel (by exact hc) rfl)

/-- A tune of a registered radio that ends with a lock failure (R28, R32). -/
theorem Part.endFailed_away {p : Part} (hs : p.aff.serving.isSome = true) (ht : p.tuning.tuned = none)
    (hp : p.tuning.position ≠ .home) (hd : p.outputsDriven = true) :
    p.endFailed = { p with tuning.op := none, tuning.position := .away } :=
  Part.recomputePosition_toAway (p := { p with tuning.op := none }) hp (Part.positionNow_untuned (by exact hs) ht) hd

/-- The same with no serving site. -/
theorem Part.endFailed_parked {p : Part} (hs : p.aff.serving = none) (hp : p.tuning.position ≠ .home)
    (hd : p.outputsDriven = true) :
    p.endFailed = { p with tuning.op := none, tuning.position := .parked, tuning.fault := false } :=
  Part.recomputePosition_toParked (p := { p with tuning.op := none }) hp hs hd

/-! ### The events that end a tune -/

/-- The three events that end an operation READY: the settle timer, and the lock with SETTLE_MS 0 (R30, R31). -/
theorem exec_opReady {s : State} {op : TuneOp} (h : s.part.tuning.op = some op) :
    let ready := Host.Outcome.next (s.withPart (s.part.opReady op).finish)
    (op.phase = .settling → exec .settleExpiry s = ready) ∧
    (op.phase = .waiting → s.part.params.settleMs = 0 → exec .lock s = ready) ∧
    (op.phase = .blanking → s.part.params.settleMs = 0 → exec (.lockBlankEnd true) s = ready) := by
  refine ⟨fun hphase => ?_, fun hphase hsettle => ?_, fun hphase hsettle => ?_⟩
  · show execSettleExpiry s = _
    simp only [execSettleExpiry, h, hphase, if_true]
  · show execLock s = _
    simp only [execLock, h, hphase, if_true, Part.lockTaken, hsettle]
  · show execLockBlankEnd true s = _
    simp only [execLockBlankEnd, h, hphase, if_true, Part.lockTaken, hsettle]

/-- The lock wait of an operation runs out (R32, R36, R37). -/
theorem exec_lockFailed {s : State} {op : TuneOp} (h : s.part.tuning.op = some op) (hw : op.lockWait.isSome = true) :
    exec .lockWaitExpiry s = .next (s.withPart (s.part.lockFailed op).finish) := by
  show execLockWaitExpiry s = _
  simp only [execLockWaitExpiry, h, hw, if_true]

/-! ### The receiver given up, and supervision resumed -/

/-- The receiver of a client with no operation becomes free as it is released, with nothing waiting for it (R34). -/
theorem Part.releaseReceiver_free {p : Part} {owner : Owner} (hh : p.tuning.holder = some owner)
    (ho : p.tuning.op = none) (hw : p.tuning.waitSched = none) (ha : p.tuning.waitAff = none)
    (hr : p.tuning.retryWaiting = false) : p.releaseReceiver owner = { p with tuning.holder := none } := by
  have hc : p.clearWaiting owner = p := by
    cases owner with
    | scheduler => exact congrArg (fun w => ({ p with tuning.waitSched := w } : Part)) hw.symm
    | affiliation => exact congrArg (fun w => ({ p with tuning.waitAff := w } : Part)) ha.symm
    | engine => rfl
  have hf : p.freeReceiver = { p with tuning.holder := none } := by
    simp only [Part.freeReceiver, hr, Part.serveClients, ha, hw, ← ho, Bool.false_eq_true, if_false]
  simp only [Part.releaseReceiver, hc, hh, ho, if_true, hf]

/-- Supervision resumed with its kept state: a full interval begins unless that is LOST (R112). -/
theorem Part.resume_eq (p : Part) :
    p.resume =
      { p with
        sup.active := true
        sup.timer := if p.sup.state = .lost then p.sup.timer else some (intervalMs (p.sup.cls.getD 0))
        sup.pttNoted := p.active .ptt
        sup.gapNoted := p.homeGap } := by
  unfold Part.resume
  dsimp only
  split <;> rfl

/-- The controller holds the receiver with no operation under way, and nothing waits for it. -/
structure Part.HeldAlone (p : Part) : Prop where
  holds : p.tuning.holder = some .affiliation
  quiet : p.tuning.op = none
  sched : p.tuning.waitSched = none
  aff : p.tuning.waitAff = none
  retry : p.tuning.retryWaiting = false

/-- A part back in REGISTERED with supervision resumed in a class and the receiver free; MUTE as given. -/
def Part.backHome (k : Nat) (mute : Bool) (p : Part) : Part :=
  { p with
    tuning.holder := none
    aff.machine := .registered
    aff.ctx := none
    sup.active := true
    sup.timer := if p.sup.state = .lost then p.sup.timer else some (intervalMs k)
    sup.pttNoted := p.active .ptt
    sup.gapNoted := p.homeGap
    lines := { p.lines.withMute mute with txinh := false } }

/-- The end of HO_RETURN: REGISTERED, supervision resumed, the receiver free (R112, R130). -/
theorem Part.endReturn_eq {p : Part} {k : Nat} {mute : Bool} (h : p.HeldAlone) (hk : p.sup.cls = some k)
    (hmute : (!(p.tuning.position == .home && p.aff.serving.isSome)) = mute) :
    p.endReturn = p.backHome k mute := by
  have hlines : (p.setMachine .registered).lines = { p.lines.withMute mute with txinh := false } := by
    rw [Part.setMachine, Part.driveOutputs_lines, ← hmute]
    simp only [beq_self_eq_true, Bool.and_true]
    rfl
  unfold Part.endReturn
  dsimp only
  rw [Part.releaseReceiver_free (by simpa [Part.resume_eq] using h.holds) (by simpa [Part.resume_eq] using h.quiet)
    (by simpa [Part.resume_eq] using h.sched) (by simpa [Part.resume_eq] using h.aff)
    (by simpa [Part.resume_eq] using h.retry), Part.resume_eq, hlines, Part.setMachine_sup, hk]
  rfl

theorem Part.backHome_driven {p : Part} {mute : Bool} (k : Nat)
    (hmute : (!(p.tuning.position == .home && p.aff.serving.isSome)) = mute) :
    (p.backHome k mute).outputsDriven = true := by
  subst hmute
  simp [Part.outputsDriven, Part.backHome, Lines.withMute, HoState.atRest]

/-! ### The tunes of a handover -/

/-- Both outputs are asserted while the machine is away from rest (R39, R117). -/
theorem Part.outputs_asserted {p : Part} (hd : p.outputsDriven = true) (hm : p.aff.machine.atRest = false) :
    p.lines.mute = true ∧ p.lines.txinh = true := by
  have hno : (p.aff.machine == .registered) = false := by
    cases h : p.aff.machine <;> simp_all [HoState.atRest]
  simpa [Part.outputsDriven, hm, hno] using hd

theorem Part.settled_of {p : Part} (hlive : p.stepRoundLive = true) (hfed : p.transmitterFed = true)
    (hdriven : p.outputsDriven = true) : p.settledOutside = true := by
  simp only [Part.settledOutside, hlive, hfed, hdriven, Bool.and_self]

/-- A change that keeps the machine at rest or away from it, with the receiver away from HOME before and after, keeps
what every step leaves. -/
theorem Part.settled_away {p q : Part} (h : p.settledOutside = true) (hp : p.tuning.position ≠ .home)
    (hq : q.tuning.position ≠ .home) (hm : q.aff.machine.atRest = p.aff.machine.atRest) (hl : q.lines = p.lines)
    (hlink : q.link = p.link) (he : q.engine.stepFlag = p.engine.stepFlag) (hw : q.sched.work = p.sched.work)
    (hc : q.aff.ctx = p.aff.ctx) : q.settledOutside = true := by
  have hpp : (p.tuning.position == .home) = false := by simpa using hp
  have hqq : (q.tuning.position == .home) = false := by simpa using hq
  simpa only [Part.settledOutside, Part.stepRoundLive, Part.transmitterFed, Part.outputsDriven, hpp, hqq, hm, hl, hlink,
    he, hw, hc, Bool.false_and] using h

/-- The tune to a target ends READY: HO_LISTEN with the beacon wait running (R126). -/
theorem Part.opReady_listens {p : Part} {op : TuneOp} {home : Nat} (ho : op.owner = .affiliation)
    (hm : p.aff.machine = .hoTune) (hc : p.servingChannel = some home) (h : op.channel ≠ home)
    (hp : p.tuning.position ≠ .home) (hd : p.outputsDriven = true) :
    p.opReady op =
      { p with
        tuning.op := none
        tuning.tuned := some op.channel
        tuning.position := .away
        aff.machine := .hoListen
        aff.hoTimer := some ⟨.beaconWait, p.params.beaconWaitMs⟩ } := by
  simp only [Part.opReady, Part.endReady_elsewhere hc h hp hd, ho, Part.handReady, Part.affReady, hm]

/-- The tune home of HO_RETURN ends READY: HOME, then the end of HO_RETURN (R31, R112, R130). -/
theorem Part.opReady_returns {p : Part} {op : TuneOp} {home : Nat} (ho : op.owner = .affiliation)
    (hm : p.aff.machine = .hoReturn) (hc : p.servingChannel = some home) (h : op.channel = home)
    (hd : p.outputsDriven = true) :
    p.opReady op = (p.tunedHome home).endReturn := by
  obtain ⟨hmute, htxinh⟩ := Part.outputs_asserted hd (by rw [hm]; rfl)
  have hdriven : (p.tunedHome home).outputsDriven = true := by
    have hno : (HoState.hoReturn == HoState.registered) = false := rfl
    simp only [Part.outputsDriven, Part.tunedHome, hm, hmute, htxinh, hno]
    rfl
  rw [Part.opReady, Part.endReady_home hc h, Part.driveOutputs_of_driven hdriven]
  simp only [ho, Part.handReady, Part.affReady, Part.tunedHome, hm]

/-- The second attempt of HO_RETURN's tune home with no lock: AWAY with the mark, then the end of HO_RETURN, then the
freeze (R37, R130). -/
theorem Part.lockFailed_returns {p : Part} {op : TuneOp} (hk : op.kind = .ret) (ha : op.attempt = 2)
    (ho : op.owner = .affiliation) (hm : p.aff.machine = .hoReturn) (hs : p.aff.serving.isSome = true)
    (ht : p.tuning.tuned = none) (hp : p.tuning.position ≠ .home) (hd : p.outputsDriven = true) :
    p.lockFailed op = p.faultedAway.endReturn.endStepRound.freezeTune := by
  simp only [Part.lockFailed, hk, ha, Part.endFailed_away hs ht hp hd, Part.markFault, ho, Part.handFailed,
    Part.affFailed, hm]
  rfl

/-- No STEP round is live where none is in progress. -/
theorem Part.live_of_noStep {p : Part} (h : p.engine.stepFlag = false) : p.stepRoundLive = true := by
  simp [Part.stepRoundLive, h]

/-- A freeze by a tune fault leaves no STEP round behind it (R155). -/
theorem Part.finish_freezeTune {p : Part} (h : p.outputsDriven = true) :
    p.freezeTune.finish = p.freezeTune.startSending :=
  Part.finish_of_live (Part.live_of_queueNotice (Part.live_of_noStep rfl)) (Part.driven_of_queueNotice (by exact h))

theorem Part.freezeTune_noStep {p : Part} (h : p.engine.stepFlag = false) :
    p.freezeTune =
      ({ p with
        engine.state := .frozen .tune, engine.continuePending := false, engine.roundTimer := none, sched.work := none } :
          Part).queueNotice (.engineState (.frozen .tune) .tune none) := by
  simp only [Part.freezeTune, Part.engineNotice, Part.endRound, ← h]

/-- Settles O30: the tune of a handover by `Part.opReady_listens`; that of HO_RETURN by the end of HO_RETURN, on HOME or
on AWAY with the mark set. -/
theorem handoverTunesEnd : Obligations.HandoverTunesEnd := by
  unfold Obligations.HandoverTunesEnd
  refine ⟨fun s op home hs hop howner hm hc hch hp => ?_,
    fun s op ctx home k hs hop howner hm hctx hc hk hh hws hwa hr hstep => ⟨fun hch => ?_, fun hkind hatt hwait ht hp => ?_⟩⟩
  · have hready := Part.opReady_listens howner hm hc hch hp (Part.driven_of_settled hs)
    have hsettled : (s.part.opReady op).settledOutside = true := by
      rw [hready]
      exact Part.settled_away hs hp (by simp) (by rw [hm]; rfl) rfl rfl rfl rfl rfl
    have hexec := exec_opReady hop
    rw [Part.finish_of_settled hsettled, hready] at hexec
    exact hexec
  · have hmute : (!((s.part.tunedHome home).tuning.position == .home && s.part.aff.serving.isSome)) = false := by
      simp [Part.tunedHome, Part.serving_of_channel hc]
    have hready : s.part.opReady op = (s.part.tunedHome home).backHome k false :=
      (Part.opReady_returns howner hm hc hch (Part.driven_of_settled hs)).trans
        (Part.endReturn_eq ⟨hh, rfl, hws, hwa, hr⟩ hk hmute)
    have hfed := Part.fed_of_settled hs
    have hsettled : (s.part.opReady op).settledOutside = true := by
      rw [hready]
      exact Part.settled_of (Part.live_of_noStep hstep) hfed (Part.backHome_driven k hmute)
    have hexec := exec_opReady hop
    rw [Part.finish_of_settled hsettled, hready] at hexec
    exact hexec
  · have hreturn : s.part.faultedAway.endReturn = s.part.faultedAway.backHome k true :=
      Part.endReturn_eq ⟨hh, rfl, hws, hwa, hr⟩ hk rfl
    have hfailed := Part.lockFailed_returns hkind hatt howner hm (Part.serving_of_channel hc) ht hp
      (Part.driven_of_settled hs)
    rw [hreturn, Part.endStepRound_of_live (p := s.part.faultedAway.backHome k true) (Part.live_of_noStep hstep)]
      at hfailed
    have hdriven : (s.part.faultedAway.backHome k true).outputsDriven = true := Part.backHome_driven k rfl
    rw [exec_lockFailed hop hwait, hfailed, Part.finish_freezeTune hdriven, Part.freezeTune_noStep (by exact hstep)]
    rfl

end Sys2Proof.Machine
end

section
/-! SUPPORT. The end of a gap's visit: the pointers, the failed visit's marks, the tune home and the hunt's end (R49, R52,
R56). -/

namespace Sys2Proof.Machine

/-- A gap that holds no converter and no place waiting for it has no run to stop (R53, R176). -/
theorem Part.stopRun_none {p : Part} (hc : p.conv.state ≠ .rssi) (hw : p.conv.waiting ≠ some .rssi) :
    p.stopRun = p := by
  rw [Part.stopRun_unheld hc, if_neg hw]

/-- The visit pointer moves past the visited position, but for a visit to the pending candidate (R47, R48). -/
theorem Part.movePointer_home {p : Part} {g : Gap} (hk : g.kind ≠ .hunt) :
    p.movePointer g =
      { p with
        sched.visitPtr := if g.fromPending = true then p.sched.visitPtr else (g.position + 1) % 24 } := by
  unfold Part.movePointer
  dsimp only
  rw [if_neg hk]
  split <;> rfl

/-- The hunt pointer moves past the visited position (R56). -/
theorem Part.movePointer_hunt {p : Part} {g : Gap} (hk : g.kind = .hunt) :
    p.movePointer g = { p with sched.huntPtr := (g.position + 1) % 24 } := by
  simp [Part.movePointer, hk]

/-- A hunt with no work left considers no further gap (R55). -/
theorem Part.considerHunt_noWork {p : Part} (h : p.sched.work = none) : p.considerHunt = p := by
  simp [Part.considerHunt, h]

/-- A HUNT gap that ends with nothing to offer, no work left and nothing waiting for the receiver (R56). -/
theorem Part.endHuntGap_free {p : Part} {g : Gap} (hk : g.kind = .hunt) (hh : p.tuning.holder = some .scheduler)
    (ho : p.tuning.op = none) (hw : p.tuning.waitSched = none) (ha : p.tuning.waitAff = none)
    (hr : p.tuning.retryWaiting = false) (hwork : p.sched.work = none) :
    p.endHuntGap g none =
      { p with sched.gap := none, sched.huntPtr := (g.position + 1) % 24, tuning.holder := none } := by
  unfold Part.endHuntGap
  dsimp only
  rw [Part.movePointer_hunt hk, Part.releaseReceiver_free (by exact hh) (by exact ho) (by exact hw) (by exact ha)
    (by exact hr)]
  exact Part.considerHunt_noWork hwork

/-- The marks of a visit whose tune away failed: the confirmation is kept (R52). -/
theorem SiteRecord.failVisit_kept (failBar : Nat) (r : SiteRecord) :
    r.failVisit failBar false =
      if r.failures < 2 then { r with failures := r.failures + 1 }
      else { r with failures := 0, bar := if failBar = 0 then r.bar else some ⟨.failed, failBar⟩ } := by
  have hlt : r.failures + 1 < 3 ↔ r.failures < 2 := by omega
  simp only [SiteRecord.failVisit, SiteRecord.setBar, hlt, Bool.false_eq_true, if_false]
  split
  · rfl
  · split <;> rfl

/-- A change of the one record in place, as the statements write it. -/
theorem Part.updateRec_eq (site : Nat) (f : SiteRecord → SiteRecord) (p : Part) :
    p.updateRec site f = { p with table := p.table.map (Option.map (fun r => if r.site = site then f r else r)) } := by
  simp only [Part.updateRec, Part.mapRecords, beq_iff_eq]

/-- A visit fails on a record that still stands (R12, R52). -/
theorem Part.visitFailed_standing {p : Part} {g : Gap} (noBeacon : Bool) (h : g.standing = true) :
    p.visitFailed g noBeacon = p.updateRec g.site (SiteRecord.failVisit p.params.failBar noBeacon) := by
  simp [Part.visitFailed, h]

/-- The part of a HOME gap whose visit is over: the table as the visit leaves it, the visit pointer moved (R48, R51,
R52). -/
def Part.visitOver (g : Gap) (table : List (Option SiteRecord)) (p : Part) : Part :=
  { p with
    table := table
    sched.visitPtr := if g.fromPending = true then p.sched.visitPtr else (g.position + 1) % 24 }

/-- The scheduler holds the receiver away from the serving channel, with no tune running (R33). -/
structure Part.HoldsAway (home : Nat) (p : Part) : Prop where
  serving : p.servingChannel = some home
  holds : p.tuning.holder = some .scheduler
  quiet : p.tuning.op = none
  away : p.tuning.position ≠ .home

/-- Its gap is sent home at once, whatever the gap has come to (R49, R53). -/
theorem Part.HoldsAway.gapTuneHome {p : Part} {home : Nat} (h : p.HoldsAway home) (hd : p.outputsDriven = true)
    (g : Gap) : p.gapTuneHome g = p.sentHome g home := by
  refine (Part.requestReturn_away (p := { p with sched.gap := some g.goneHome }) h.serving h.holds h.quiet h.away).trans ?_
  exact Part.driveOutputs_of_driven (Part.driven_away hd h.away (by simp) rfl rfl)

/-- A HOME gap whose visit is over goes home (R49). -/
theorem Part.HoldsAway.visitOver {p q : Part} {g : Gap} {home : Nat} (h : p.HoldsAway home) (hd : p.outputsDriven = true)
    (hk : g.kind ≠ .hunt) (hq : q = { p with table := q.table }) (hplaces : p.SamePlaces q) :
    (q.movePointer g).gapTuneHome g = (p.visitOver g q.table).sentHome g home := by
  have hover : (p.visitOver g q.table).HoldsAway home :=
    { serving := (Part.SamePlaces.servingChannel (p := p) (q := p.visitOver g q.table) hplaces rfl).trans h.serving
      holds := h.holds
      quiet := h.quiet
      away := h.away }
  rw [Part.movePointer_home hk, ← hover.gapTuneHome hd g, hq]
  rfl

/-- A gap sent home from a part away from HOME keeps what every step leaves. -/
theorem Part.sentHome_settled {p : Part} {g : Gap} {home : Nat} (h : p.settledOutside = true)
    (hp : p.tuning.position ≠ .home) : (p.sentHome g home).settledOutside = true :=
  Part.settled_away h hp (by simp [Part.sentHome]) rfl rfl rfl rfl rfl rfl

/-- A failed visit of a HOME gap (R52). -/
theorem Part.failGap_home {p : Part} {g : Gap} {home : Nat} (noBeacon : Bool) (h : p.HoldsAway home)
    (hd : p.outputsDriven = true) (hk : g.kind ≠ .hunt) (hc : p.conv.state ≠ .rssi)
    (hplace : p.conv.waiting ≠ some .rssi) (hstanding : g.standing = true) :
    p.failGap g noBeacon =
      (p.visitOver g (p.table.map (Option.map (fun r =>
        if r.site = g.site then r.failVisit p.params.failBar noBeacon else r)))).sentHome g home := by
  have hvisit := h.visitOver (g := g) (q := p.updateRec g.site (SiteRecord.failVisit p.params.failBar noBeacon)) hd hk rfl
    (by simp [Part.SamePlaces])
  rw [Part.updateRec_eq] at hvisit
  rw [← hvisit, Part.failGap, Part.stopRun_none hc hplace, Part.visitFailed_standing noBeacon hstanding,
    Part.updateRec_eq, if_neg hk]

/-- A failed visit of a HUNT gap with no work left and nothing waiting for the receiver (R52, R56). -/
theorem Part.failGap_hunt {p : Part} {g : Gap} (noBeacon : Bool) (hk : g.kind = .hunt) (hc : p.conv.state ≠ .rssi)
    (hplace : p.conv.waiting ≠ some .rssi) (hstanding : g.standing = true)
    (hh : p.tuning.holder = some .scheduler) (ho : p.tuning.op = none) (hw : p.tuning.waitSched = none)
    (ha : p.tuning.waitAff = none) (hr : p.tuning.retryWaiting = false) (hwork : p.sched.work = none) :
    p.failGap g noBeacon =
      { p with
        table := p.table.map (Option.map (fun r =>
          if r.site = g.site then r.failVisit p.params.failBar noBeacon else r))
        sched.gap := none
        sched.huntPtr := (g.position + 1) % 24
        tuning.holder := none } := by
  rw [Part.failGap, Part.stopRun_none hc hplace, Part.visitFailed_standing noBeacon hstanding, Part.updateRec_eq]
  dsimp only
  rw [if_pos hk, Part.endHuntGap_free hk (by exact hh) (by exact ho) (by exact hw) (by exact ha) (by exact hr)
    (by exact hwork)]

end Sys2Proof.Machine
end

section
/-! SUPPORT. The part of a tune home that has failed twice: AWAY, untuned, with the mark set, whatever the receiver is
asked for next (R37). -/

namespace Sys2Proof.Machine

/-- A part with a serving site that has failed to come home to it (R28, R37). -/
structure Part.Stranded (site : Nat) (p : Part) : Prop where
  serving : p.aff.serving = some site
  untuned : p.tuning.tuned = none
  away : p.tuning.position = .away
  marked : p.tuning.fault = true

namespace Part.Stranded

variable {site : Nat} {p q : Part}

theorem congr (h : p.Stranded site) (ha : q.aff.serving = p.aff.serving) (ht : q.tuning.tuned = p.tuning.tuned)
    (hp : q.tuning.position = p.tuning.position) (hf : q.tuning.fault = p.tuning.fault) : q.Stranded site :=
  ⟨ha.trans h.serving, ht.trans h.untuned, hp.trans h.away, hf.trans h.marked⟩

/-- A tune that starts leaves the receiver untuned, and the position as it is. -/
theorem startOp (h : p.Stranded site) (owner : Owner) (req : TuneReq) : (p.startOp owner req).Stranded site := by
  have key {q : Part} (hq : q.Stranded site) : q.recomputePosition.Stranded site := by
    have hn := Part.positionNow_untuned (by simp [hq.serving]) hq.untuned
    refine ⟨by simp [hq.serving], ?_, ?_, ?_⟩ <;> simp [Part.recomputePosition_tuning, hn, hq.untuned, hq.marked]
  exact key ⟨h.serving, rfl, h.away, h.marked⟩

theorem requestTune (h : p.Stranded site) (owner : Owner) (req : TuneReq) :
    (p.requestTune owner req).Stranded site := by
  have hput : (p.putWaiting owner req).Stranded site := by
    unfold Part.putWaiting
    split <;> exact h.congr rfl rfl rfl rfl
  unfold Part.requestTune
  split
  · exact h.startOp _ _
  · split
    · split
      · split
        · split
          · exact hput
          · exact h.congr rfl rfl rfl rfl
        · exact h.startOp _ _
      · exact h.startOp _ _
    · exact hput

theorem serveClients (h : p.Stranded site) : p.serveClients.Stranded site := by
  unfold Part.serveClients
  split
  · exact startOp (by exact h.congr rfl rfl rfl rfl) _ _
  · exact startOp (by exact h.congr rfl rfl rfl rfl) _ _
  · exact h

theorem makeRetry (h : p.Stranded site) : p.makeRetry.Stranded site := by
  unfold Part.makeRetry
  split
  · exact h.startOp _ _
  · have ht : p.engineReady.tuning = p.tuning := by
      unfold Part.engineReady; split <;> simp [Part.startRunning]
    exact h.congr (by simp) (by rw [ht]) (by rw [ht]) (by rw [ht])

theorem freeReceiver (h : p.Stranded site) : p.freeReceiver.Stranded site := by
  unfold Part.freeReceiver
  dsimp only
  split
  · have hr := makeRetry (p := { p with tuning.holder := none, tuning.op := none, tuning.retryWaiting := false })
      (h.congr rfl rfl rfl rfl)
    split
    · exact hr
    · exact hr.serveClients
  · exact serveClients (by exact h.congr rfl rfl rfl rfl)

theorem releaseReceiver (h : p.Stranded site) (owner : Owner) : (p.releaseReceiver owner).Stranded site := by
  have hc : (p.clearWaiting owner).Stranded site := by
    unfold Part.clearWaiting
    split <;> exact h.congr rfl rfl rfl rfl
  unfold Part.releaseReceiver
  dsimp only
  split
  · split
    · split
      · exact hc.congr rfl rfl rfl rfl
      · exact hc.freeReceiver
    · exact hc.freeReceiver
  · exact hc

/-- The end of HO_RETURN reaches the receiver only by its release (R130). -/
theorem endReturn (h : p.Stranded site) : p.endReturn.Stranded site := by
  unfold Part.endReturn
  exact releaseReceiver (p := { (p.setMachine .registered).resume with aff.ctx := none })
    (h.congr (by simp) (by simp [Part.resume_eq]) (by simp [Part.resume_eq]) (by simp [Part.resume_eq])) _

theorem goTune (h : p.Stranded site) (ctx : Context) : (p.goTune ctx).Stranded site := by
  unfold Part.goTune
  dsimp only
  split
  · exact requestTune (by exact h.congr rfl rfl rfl rfl) _ _
  · exact h.congr rfl rfl rfl rfl

/-- A handover or a DEREGISTER that waited for the gap goes on (R54). -/
theorem gapEndedReport (h : p.Stranded site) : p.gapEndedReport.Stranded site := by
  unfold Part.gapEndedReport
  split
  · split
    · exact h.goTune _
    · exact h
  · split
    · have ht : p.issueDeregister.tuning = p.tuning := by simp [Part.issueDeregister, Part.issueTx]
      exact h.congr (by simp [Part.issueDeregister, Part.issueTx]) (by rw [ht]) (by rw [ht]) (by rw [ht])
    · exact h

/-- No further gap of the round starts away from HOME (R45). -/
theorem considerHomeGap (h : p.Stranded site) : p.considerHomeGap.Stranded site := by
  obtain ⟨ht, -, -⟩ := Part.considerHomeGap_kept (p := p) (.inr (by simp [h.away]))
  exact h.congr (by simp) (by rw [ht]) (by rw [ht]) (by rw [ht])

theorem endHomeGap (h : p.Stranded site) : p.endHomeGap.Stranded site :=
  (releaseReceiver (p := { p with sched.gap := none }) (h.congr rfl rfl rfl rfl) .scheduler).gapEndedReport.considerHomeGap

end Part.Stranded

/-- What its owner makes of a tune home that has failed leaves the part stranded and the table alone (R37, R38, R57,
R130). -/
theorem Part.handFailed_stranded {p : Part} {site : Nat} {owner : Owner} (h : p.Stranded site)
    (ho : owner = .engine ∨ (owner = .affiliation ∧ p.aff.machine = .hoReturn) ∨
      (owner = .scheduler ∧ ∃ g, p.sched.gap = some g ∧ g.phase = .tuneHome)) :
    (p.handFailed owner).Stranded site ∧ (p.handFailed owner).table = p.table := by
  rcases ho with rfl | ⟨rfl, hm⟩ | ⟨rfl, g, hg, hphase⟩
  · exact ⟨h.freeReceiver, by simp [Part.handFailed]⟩
  · have he : p.handFailed .affiliation = p.endReturn := by simp only [Part.handFailed, Part.affFailed, hm]
    rw [he]
    exact ⟨h.endReturn, by simp⟩
  · have he : p.handFailed .scheduler = p.endHomeGap := by
      simp [Part.handFailed, Part.schedFailed, hg, hphase]
    rw [he]
    exact ⟨h.endHomeGap, by simp⟩

@[simp] theorem Part.freezeTune_work (p : Part) : p.freezeTune.sched.work = none := by
  simp [Part.freezeTune, Part.endRound]

/-- The engine after a tune fault's step (R155). -/
theorem Part.finish_freezeTune_engine (p : Part) :
    p.freezeTune.finish.engine =
      { p.engine with state := .frozen .tune, stepFlag := false, roundTimer := none, continuePending := false } := by
  rw [p.freezeTune.finish_ended.stepFlag (.inr (.inr (by simp [Part.freezeTune, Part.endRound])))]
  simp [Part.freezeTune, Part.endRound]

/-- A tune home that fails twice strands the part (R28, R37). -/
theorem Part.endFailed_stranded {p : Part} {site : Nat} (hs : p.aff.serving = some site) (ht : p.tuning.tuned = none) :
    p.endFailed.markFault.Stranded site := by
  have htun : p.endFailed.tuning =
      { p.tuning with op := none, position := .away, fault := p.tuning.fault && Position.away == .away } := by
    unfold Part.endFailed
    rw [Part.recomputePosition_tuning, Part.positionNow_untuned (by simp [hs]) (by exact ht)]
  refine ⟨by simp [hs], ?_, ?_, ?_⟩ <;> simp [Part.markFault, htun, ht]

/-- The step of a tune home that fails twice (R37, R155). -/
theorem Part.lockFailed_strands {p : Part} {op : TuneOp} {site : Nat} (hk : op.kind = .ret) (ha : op.attempt = 2)
    (hs : p.aff.serving = some site) (ht : p.tuning.tuned = none)
    (ho : op.owner = .engine ∨ (op.owner = .affiliation ∧ p.aff.machine = .hoReturn) ∨
      (op.owner = .scheduler ∧ ∃ g, p.sched.gap = some g ∧ g.phase = .tuneHome)) :
    ∃ q : Part, (p.lockFailed op).finish = q.freezeTune.finish ∧ q.Stranded site ∧ q.table = p.table := by
  have hgap : ∀ g, p.sched.gap = some g → g.phase = .tuneHome →
      ∃ g', p.endFailed.markFault.sched.gap = some g' ∧ g'.phase = .tuneHome := fun g hg hphase => by
    have hform : p.endFailed.markFault.sched.gap.map Gap.form = p.sched.gap.map Gap.form := by
      simp [Part.markFault, Part.endFailed]
    rw [hg, Option.map_some, Option.map_eq_some_iff] at hform
    obtain ⟨g', hg', hform⟩ := hform
    exact ⟨g', hg', (congrArg Gap.phase hform).trans hphase⟩
  obtain ⟨hstranded, htable⟩ := Part.handFailed_stranded (owner := op.owner) (Part.endFailed_stranded hs ht)
    (ho.imp_right (Or.imp (And.imp_right (fun hm => by simp [hm]))
      (And.imp_right (fun ⟨g, hg, hphase⟩ => hgap g hg hphase))))
  have hstep : (p.endFailed.markFault.handFailed op.owner).endStepRound.tuning =
      (p.endFailed.markFault.handFailed op.owner).tuning := by simp
  refine ⟨_, by simp only [Part.lockFailed, hk, ha]; rfl, hstranded.congr (by simp) (by rw [hstep]) (by rw [hstep])
    (by rw [hstep]), ?_⟩
  simp [htable]

/-- The lock wait of a HOME gap's tune away runs out (R32, R52). -/
theorem Part.lockFailed_home {p : Part} {op : TuneOp} {g : Gap} {home : Nat} (hk : op.kind = .away)
    (ho : op.owner = .scheduler) (ht : p.tuning.tuned = none) (hg : p.sched.gap = some g) (hphase : g.phase = .tuneAway)
    (hkind : g.kind ≠ .hunt) (hc : p.servingChannel = some home) (hconv : p.conv.state ≠ .rssi)
    (hplace : p.conv.waiting ≠ some .rssi) (hh : p.tuning.holder = some .scheduler) (hp : p.tuning.position ≠ .home)
    (hstanding : g.standing = true) (hd : p.outputsDriven = true) :
    p.lockFailed op =
      (p.visitOver g (p.table.map (Option.map (fun r =>
        if r.site = g.site then r.failVisit p.params.failBar false else r)))).sentHome g home := by
  let q : Part := { p with tuning.op := none, tuning.position := .away }
  have hholds : q.HoldsAway home := { serving := hc, holds := hh, quiet := rfl, away := by simp [q] }
  have hq : q.outputsDriven = true := Part.driven_away hd hp hholds.away rfl rfl
  have hfail : p.lockFailed op = q.failGap g false := by
    simp only [Part.lockFailed, hk, Part.endFailed_away (Part.serving_of_channel hc) ht hp hd, ho, Part.handFailed,
      Part.schedFailed, hg, hphase, if_true]
    rfl
  rw [hfail, Part.failGap_home false hholds hq hkind hconv hplace hstanding]
  rfl

/-- Settles O32: attempt 2 by its shift, the tune fault by `Part.Stranded`, and a failed visit by its marks and the end
of its gap. -/
theorem lockWaitExpiryRetriesFreezesOrFails : Obligations.LockWaitExpiryRetriesFreezesOrFails := by
  unfold Obligations.LockWaitExpiryRetriesFreezesOrFails
  refine ⟨fun s op home hs hop hkind hwait hc => ⟨fun ha => ?_, fun ha ht howner => ?_⟩,
    fun s op g hs hop hkind howner hwait ht hg hphase hstanding hconv hplace hh hp =>
      ⟨fun home hk hc => ?_, fun hk hserving hwork hws hwa hr => ?_⟩⟩
  · have hretry : s.part.lockFailed op = s.part.secondAttempt op := by simp only [Part.lockFailed, hkind, ha, if_true]
    rw [exec_lockFailed hop hwait, hretry, Part.finish_of_settled (by exact hs)]
    rfl
  · obtain ⟨site, hsite⟩ := Option.isSome_iff_exists.1 (Part.serving_of_channel hc)
    obtain ⟨q, hq, hstranded, htable⟩ := Part.lockFailed_strands hkind ha hsite ht howner
    refine ⟨_, exec_lockFailed hop hwait, ?_⟩
    rw [hq]
    simp [q.finish_freezeTune_engine, hstranded.marked, hstranded.away, hstranded.serving, hsite, htable]
  · have hfailed := Part.lockFailed_home hkind howner ht hg hphase hk hc hconv hplace hh hp hstanding
      (Part.driven_of_settled hs)
    rw [exec_lockFailed hop hwait, hfailed, Part.finish_of_settled (Part.sentHome_settled (by exact hs) (by exact hp))]
    simp only [SiteRecord.failVisit_kept]
    rfl
  · let q : Part := { s.part with tuning.op := none, tuning.position := .parked, tuning.fault := false }
    have hfailed : s.part.lockFailed op = q.failGap g false := by
      simp only [Part.lockFailed, hkind, Part.endFailed_parked hserving hp (Part.driven_of_settled hs), howner,
        Part.handFailed, Part.schedFailed, hg, hphase, if_true]
      rfl
    rw [Part.failGap_hunt false hk (by exact hconv) (by exact hplace) hstanding (by exact hh) rfl (by exact hws)
      (by exact hwa) (by exact hr) (by exact hwork)] at hfailed
    have hsettled : (s.part.lockFailed op).settledOutside = true := by
      rw [hfailed]
      exact Part.settled_away hs hp (by simp [q]) rfl rfl rfl rfl rfl rfl
    rw [exec_lockFailed hop hwait, Part.finish_of_settled hsettled, hfailed]
    simp only [SiteRecord.failVisit_kept]
    rfl

end Sys2Proof.Machine
end

section
/-! SUPPORT. The course of a gap: its tunes end READY (R49, R50, R57), its mean is credited (R51), and a HUNT gap offers
its ACQUIRE (R56, R133): the statement O31. -/

namespace Sys2Proof.Machine

/-! ### The tunes of a gap -/

/-- A gap's tune away has ended READY with the converter idle: its sampling begins (R49, R50). -/
theorem Part.schedReady_samples {p : Part} {g : Gap} (hg : p.sched.gap = some g) (hphase : g.phase = .tuneAway)
    (hb : p.sched.burst = none) (hc : p.conv.state = .idle) :
    p.schedReady =
      { p with
        sched.gap := some { g with
          phase := .sample
          run := ⟨p.params.samples, p.params.sampleMs, 0, 0, .converting⟩
          listenTimer := if g.kind = .short then none else some p.params.listenMs }
        conv.state := .rssi } := by
  simp [Part.schedReady, hg, hphase, Part.askRssi, hc, Part.takeRssi, Part.mapRun, hb, SampleRun.begin]

/-- A gap's tune home has ended READY: the gap ends (R57). -/
theorem Part.schedReady_ends {p : Part} {g : Gap} (hg : p.sched.gap = some g) (hphase : g.phase = .tuneHome) :
    p.schedReady = p.endHomeGap := by
  simp [Part.schedReady, hg, hphase]

/-- A HOME gap ends with no handover or DEREGISTER behind it, no work left and nothing waiting for the receiver (R54,
R57). -/
theorem Part.endHomeGap_free {p : Part} (hh : p.tuning.holder = some .scheduler) (ho : p.tuning.op = none)
    (hw : p.tuning.waitSched = none) (ha : p.tuning.waitAff = none) (hr : p.tuning.retryWaiting = false)
    (hctx : p.aff.ctx = none) (hdue : p.aff.deregisterDue = false) (hwork : p.sched.work = none) :
    p.endHomeGap = { p with sched.gap := none, tuning.holder := none } := by
  have hreport : ({ p with sched.gap := none, tuning.holder := none } : Part).gapEndedReport =
      { p with sched.gap := none, tuning.holder := none } := by
    simp [Part.gapEndedReport, hctx, hdue]
  rw [Part.endHomeGap, Part.releaseReceiver_free (by exact hh) (by exact ho) (by exact hw) (by exact ha) (by exact hr)]
  refine (congrArg Part.considerHomeGap hreport).trans ?_
  simp [Part.considerHomeGap, hwork]

/-- TXINH is released while the machine is at rest (R117). -/
theorem Part.txinh_atRest {p : Part} (hd : p.outputsDriven = true) (hm : p.aff.machine.atRest = true) :
    p.lines.txinh = false := by
  simp only [Part.outputsDriven, Bool.and_eq_true, beq_iff_eq] at hd
  rw [hd.2, hm]
  rfl

/-- MUTE is asserted away from HOME (R39). -/
theorem Part.muted_away {p : Part} (hd : p.outputsDriven = true) (hp : p.tuning.position ≠ .home) :
    p.lines.mute = true := by
  have hno : (p.tuning.position == .home) = false := by simpa using hp
  simp only [Part.outputsDriven, hno, Bool.false_and, Bool.not_false, Bool.and_eq_true, beq_iff_eq] at hd
  exact hd.1

/-- A registered radio comes HOME: MUTE is released (R39). -/
theorem Part.tunedHome_driven {p : Part} (home : Nat) (hm : p.aff.machine = .registered)
    (hs : p.aff.serving.isSome = true) (hd : p.outputsDriven = true) :
    (p.tunedHome home).driveOutputs = { p.tunedHome home with lines := p.lines.withMute false } := by
  have hlines := (p.tunedHome home).driveOutputs_lines
  have htxinh := Part.txinh_atRest hd (by rw [hm]; rfl)
  have hmute : (p.tunedHome home).driveOutputs.lines = p.lines.withMute false := by
    rw [hlines]
    simp only [Part.tunedHome, hm, hs]
    exact congrArg (fun b => ({ p.lines.withMute false with txinh := b } : Lines)) htxinh.symm
  rw [← hmute]
  rfl

/-- The settle timer of a tune whose end leaves nothing owed (R31). -/
theorem exec_settleExpiry_ready {s : State} {op : TuneOp} {q : Part} (hop : s.part.tuning.op = some op)
    (hphase : op.phase = .settling) (hq : s.part.opReady op = q) (h : q.settledOutside = true) :
    exec .settleExpiry s = .next (s.withPart q) := by
  rw [(exec_opReady hop).1 hphase, hq, Part.finish_of_settled h]

/-! ### Crediting -/

/-- With no watch set a crediting changes the one record alone (R51, R64). -/
theorem Part.credit_unset {p : Part} (h0 : p.engine.watch0 = none) (h1 : p.engine.watch1 = none) (site mean : Nat) :
    p.credit site mean =
      { p with
        table := p.table.map (Option.map (fun r => if r.site = site then r.credited p.params mean else r)) } := by
  rw [Part.credit, Part.offerWrite_unset (by simpa using h0) (by simpa using h1), Part.updateRec_eq]
  simp only [SiteRecord.credit_eq]

/-- The table as a gap's crediting leaves it (R12, R51). -/
def Gap.creditedTable (g : Gap) (ps : Params) (table : List (Option SiteRecord)) : List (Option SiteRecord) :=
  table.map (Option.map (fun r =>
    if g.creditTo.2 = true ∧ r.site = g.creditTo.1 then r.credited ps g.run.mean else r))

/-- The crediting of a gap, with no watch set and whether or not its record still stands. -/
theorem Part.credit_gap {p : Part} (h0 : p.engine.watch0 = none) (h1 : p.engine.watch1 = none) (g : Gap) :
    (if g.creditTo.2 = true then p.credit g.creditTo.1 g.run.mean else p) =
      { p with table := g.creditedTable p.params p.table } := by
  unfold Gap.creditedTable
  cases g.creditTo.2 with
  | true => simp only [if_true, Part.credit_unset h0 h1, true_and]
  | false => simp

theorem Gap.creditedTable_places (g : Gap) (p : Part) :
    p.SamePlaces { p with table := g.creditedTable p.params p.table } := by
  refine Part.mapRecords_places (f := fun r =>
    if g.creditTo.2 = true ∧ r.site = g.creditTo.1 then r.credited p.params g.run.mean else r) (fun r => ?_) p
  split <;> rfl

/-- A HOME gap is credited and sent home (R49, R51). -/
theorem Part.creditGap_home {p : Part} {g : Gap} {home : Nat} (h : p.HoldsAway home) (hd : p.outputsDriven = true)
    (hk : g.kind ≠ .hunt) (h0 : p.engine.watch0 = none) (h1 : p.engine.watch1 = none) :
    p.creditGap g = (p.visitOver g (g.creditedTable p.params p.table)).sentHome g home := by
  rw [← h.visitOver (g := g) hd hk rfl (g.creditedTable_places p), ← Part.credit_gap h0 h1 g]
  exact if_neg hk

/-- A HUNT gap is credited and ends, with an ACQUIRE of the site heard from ACCEPT_MIN on (R51, R56). -/
theorem Part.creditGap_hunt {p : Part} {g : Gap} (hk : g.kind = .hunt) (h0 : p.engine.watch0 = none)
    (h1 : p.engine.watch1 = none) :
    p.creditGap g =
      ({ p with table := g.creditedTable p.params p.table } : Part).endHuntGap g
        (if g.creditTo.2 = true ∧ p.params.acceptMin ≤ g.run.mean then some g.creditTo.1 else none) := by
  rw [← Part.credit_gap h0 h1 g]
  simp only [Part.creditGap, hk, if_true]
  cases g.creditTo.2 <;> simp

/-! ### The last sample of a gap -/

/-- The last conversion of a short gap with no beacon noted comes to its crediting (R49, R51, R176). -/
theorem Part.takeSample_lastOfShort {p : Part} {g : Gap} (code : Byte) (hg : p.sched.gap = some g)
    (hk : g.kind = .short) (hlast : g.run.taken + 1 = g.run.count) (hb : p.sched.burst = none)
    (hw : p.conv.waiting = none) :
    p.takeSample code =
      ({ p with
        sched.gap := some { g with run := g.run.add (levelOfCode p.params code) }
        conv.state := .idle } : Part).creditGap { g with run := g.run.add (levelOfCode p.params code) } := by
  have hphase : (g.run.add (levelOfCode p.params code)).phase = .complete := by simp [SampleRun.add, hlast]
  simp [Part.takeSample, Part.mapRun, hb, hg, Part.run, hphase, Part.releaseConverter, hw, Part.runComplete,
    Part.gapSampled, hk]

/-! ### The beacon of a listening gap -/

theorem Part.confirmedBy_places (b : Beacon) (p : Part) : p.SamePlaces { p with table := p.confirmedBy b } := by
  refine Part.mapRecords_places (f := fun r =>
    if r.site = b.site then { r with confirm := some 0, load := some b.load }
    else if r.channel = b.channel ∧ p.aff.serving ≠ some r.site then { r with confirm := none }
    else r) (fun r => ?_) p
  (repeat' split) <;> rfl

/-- A gap with a beacon noted in it (R51). -/
def Gap.noting (site : Nat) (g : Gap) : Gap := { g with noted := some ⟨site, true⟩ }

/-- A beacon accepted in LISTEN, with the machine at rest, is written and brings the crediting (R50, R120, R121). -/
theorem Part.takeFrame_listening {p : Part} {b : Beacon} {r : SiteRecord} {g : Gap} (hg : p.sched.gap = some g)
    (hphase : g.phase = .listen) (ht : p.tuning.tuned = some b.channel) (hgc : g.channel = b.channel)
    (hr : p.record b.site = some r) (hc : r.channel = b.channel) (hm : p.aff.machine.atRest = true)
    (hp : p.aff.machine = .registered → p.tuning.position ≠ .home) (h0 : p.engine.watch0 = none)
    (h1 : p.engine.watch1 = none) :
    p.takeFrame (.beacon b) = ({ p with table := p.confirmedBy b } : Part).creditGap (g.noting b.site) := by
  have hnot : ¬ (p.aff.machine = .registered ∧ p.tuning.position = .home) := fun ⟨h, h'⟩ => hp h h'
  have hchannel : (({ p with table := p.confirmedBy b } : Part).record b.site).map SiteRecord.channel =
      some g.channel := by
    rw [(p.confirmedBy_places b).channel, hr, hgc, ← hc]
    rfl
  simp only [Part.takeFrame, Part.takeBeacon, ht, if_true,
    Part.beaconWrites_confirmed hr hc (Part.confirmHeld_atRest r hm) h0 h1]
  simp [Part.handOnBeacon, hnot, Part.openGap, hg, hphase, Part.noteBeacon, hchannel, Gap.noting]

/-- A record as a beacon of a gap and the crediting of its mean leave it (R7, R13, R51). -/
def SiteRecord.heard (b : Beacon) (ps : Params) (mean : Nat) (serving : Option Nat) (r : SiteRecord) : SiteRecord :=
  if r.site = b.site then ({ r with confirm := some 0, load := some b.load } : SiteRecord).credited ps mean
  else if r.channel = b.channel ∧ serving ≠ some r.site then { r with confirm := none }
  else r

theorem Gap.creditedTable_noting (g : Gap) (b : Beacon) (p : Part) :
    (g.noting b.site).creditedTable p.params (p.confirmedBy b) =
      p.table.map (Option.map (SiteRecord.heard b p.params g.run.mean p.aff.serving)) := by
  simp only [Gap.creditedTable, Part.confirmedBy, List.map_map]
  congr 1
  funext o
  cases o with
  | none => rfl
  | some r =>
    simp only [Function.comp_apply, Option.map_some, Option.some.injEq, Gap.noting, Gap.creditTo, SiteRecord.heard]
    by_cases hr : r.site = b.site
    · simp [hr]
    · by_cases hc : r.channel = b.channel ∧ p.aff.serving ≠ some r.site <;> simp [hr, hc]

/-- The beacon of a listening HUNT gap, with no watch set: the gap ends, with an ACQUIRE of the beacon's site from
ACCEPT_MIN on (R51, R56). -/
theorem Part.creditGap_huntHeard {p : Part} {b : Beacon} {g : Gap} (hk : g.kind = .hunt) (h0 : p.engine.watch0 = none)
    (h1 : p.engine.watch1 = none) :
    ({ p with table := p.confirmedBy b } : Part).creditGap (g.noting b.site) =
      ({ p with
        table := p.table.map (Option.map (SiteRecord.heard b p.params g.run.mean p.aff.serving)) } : Part).endHuntGap
          (g.noting b.site) (if p.params.acceptMin ≤ g.run.mean then some b.site else none) := by
  have hcredit := Part.creditGap_hunt (p := { p with table := p.confirmedBy b }) (g := g.noting b.site) (by exact hk)
    (by exact h0) (by exact h1)
  dsimp only at hcredit
  rw [Gap.creditedTable_noting] at hcredit
  simpa only [Gap.noting, Gap.creditTo, true_and] using hcredit

theorem SiteRecord.heard_site (b : Beacon) (ps : Params) (mean : Nat) (serving : Option Nat) (r : SiteRecord) :
    (r.heard b ps mean serving).site = r.site := by
  unfold SiteRecord.heard
  (repeat' split) <;> rfl

/-- The record found by a site ID after a change of every record that keeps the site IDs. -/
theorem Part.record_of_map {p q : Part} {f : SiteRecord → SiteRecord} (hq : q.table = p.table.map (Option.map f))
    (hf : ∀ r, (f r).site = r.site) (site : Nat) : q.record site = (p.record site).map f := by
  have hocc (l : List (Option SiteRecord)) (k : Nat) :
      occupiedFrom k (l.map (Option.map f)) = (occupiedFrom k l).map (fun x => (x.1, f x.2)) := by
    induction l generalizing k with
    | nil => rfl
    | cons o l ih => cases o <;> simp [occupiedFrom, ih]
  simp only [Part.record, Part.find, Part.occupied, hq, hocc, List.find?_map, Option.map_map, Function.comp_def, hf]

/-- The record of a beacon's site, confirmed and credited (R7, R51). -/
theorem Part.record_heard {p q : Part} {b : Beacon} {r : SiteRecord} {mean : Nat}
    (hq : q.table = p.table.map (Option.map (SiteRecord.heard b p.params mean p.aff.serving)))
    (hr : p.record b.site = some r) :
    q.record b.site =
      some (({ r with confirm := some 0, load := some b.load } : SiteRecord).credited p.params mean) := by
  rw [Part.record_of_map hq (SiteRecord.heard_site b _ _ _), hr, Option.map_some]
  exact congrArg some (if_pos (Part.record_some hr).2)

/-! ### The ACQUIRE of a hunt -/

/-- The part of a HUNT gap that has ended, before its offer is heard (R56). -/
def Part.huntOver (g : Gap) (p : Part) : Part :=
  { p with sched.gap := none, sched.huntPtr := (g.position + 1) % 24, tuning.holder := none }

/-- A HUNT gap that ends with an offer (R56, R133). -/
theorem Part.endHuntGap_offer {p : Part} {g : Gap} (site : Nat) (hk : g.kind = .hunt)
    (hh : p.tuning.holder = some .scheduler) (ho : p.tuning.op = none) (hw : p.tuning.waitSched = none)
    (ha : p.tuning.waitAff = none) (hr : p.tuning.retryWaiting = false) :
    p.endHuntGap g (some site) = ((p.huntOver g).offerAcquire site g.inStep).considerHunt := by
  unfold Part.endHuntGap
  dsimp only
  rw [Part.movePointer_hunt hk, Part.releaseReceiver_free (by exact hh) (by exact ho) (by exact hw) (by exact ha)
    (by exact hr)]
  rfl

/-- An offer that the controller turns down, or that finds the engine making no rounds (R98, R133). -/
theorem Part.offerAcquire_refused {p : Part} {site : Nat} {r : SiteRecord} (inStep : Bool)
    (hr : p.record site = some r) (hf : p.engine.stepFlag = false)
    (h : p.aff.identity = none ∨ r.blocked = true ∨ p.engine.state ≠ .running) : p.offerAcquire site inStep = p := by
  have hworking : p.engine.state ≠ .running → p.engine.working = false := by
    intro h; simp [Engine.working, h, hf]
  unfold Part.offerAcquire
  simp only [hr]
  rcases h with h | h | h
  · rw [if_neg (by simp [h])]
  · rw [if_neg (by simp [h])]
  · split
    · simp [Part.selectCheck, hworking h]
    · rfl

/-- An offer that the controller takes, with the engine RUNNING and no watch set (R98, R133). -/
theorem Part.offerAcquire_begins {p : Part} {site : Nat} {r : SiteRecord} (inStep : Bool) (hr : p.record site = some r)
    (hm : p.aff.machine = .none) (hid : p.aff.identity.isSome = true) (hconf : r.confirm.isSome = true)
    (hb : r.blocked = false) (hrun : p.engine.state = .running) (h0 : p.engine.watch0 = none)
    (h1 : p.engine.watch1 = none) : p.offerAcquire site inStep = p.beginHandover site .acquire inStep := by
  have hcheck : p.selectCheck site .acquire = (true, p) := by
    simp [Part.selectCheck, Engine.working, hrun, Engine.holdingSlot, h0, h1]
  unfold Part.offerAcquire
  simp only [hr, hm, hid, hconf, hb, hcheck]
  rfl

/-- A handover of a radio in NONE goes to HO_TUNE: the receiver stays PARKED, TXINH is asserted (R117, R125 step 4). -/
theorem Part.goTune_parked {p : Part} {ctx : Context} {r : SiteRecord} (hr : p.record ctx.target = some r)
    (hh : p.tuning.holder = none) (hs : p.aff.serving = none) (hp : p.tuning.position = .parked)
    (hf : p.tuning.fault = false) (hmute : p.lines.mute = true) :
    p.goTune ctx =
      { p with
        aff.ctx := some { ctx with waiting := false }
        aff.machine := .hoTune
        sup.active := false
        sup.timer := none
        tuning.op := some (freshOp p.params r.channel .away .affiliation)
        tuning.pins := startPins p.params r.channel
        tuning.tuned := none
        tuning.holder := some .affiliation
        lines.txinh := true } := by
  let q : Part := { p with
    aff.ctx := some { ctx with waiting := false }
    aff.machine := .hoTune
    sup.active := false
    sup.timer := none
    lines.txinh := true }
  have hq : (({ p with aff.ctx := some { ctx with waiting := false } } : Part).setMachine .hoTune).suspend = q := by
    rw [Part.setMachine, Part.driveOutputs_away (by simp [hp])]
    simp only [hmute, if_true]
    exact congrArg (fun b => ({ q with lines.mute := b } : Part)) hmute.symm
  have hstart : p.goTune ctx = q.startOp .affiliation ⟨r.channel, .away⟩ := by
    have hrec : q.record ctx.target = some r := hr
    have hhold : q.tuning.holder = none := hh
    unfold Part.goTune
    dsimp only
    rw [hq]
    simp only [hrec, Part.requestTune, hhold]
  let started : Part := { q with
    tuning.op := some (freshOp p.params r.channel .away .affiliation)
    tuning.pins := startPins p.params r.channel
    tuning.tuned := none
    tuning.holder := some .affiliation }
  have hdriven : started.outputsDriven = true := by simp [Part.outputsDriven, started, q, hp, hmute, HoState.atRest]
  have hparked := Part.recomputePosition_toParked (p := started) (by simp [started, q, hp]) hs hdriven
  rw [← hp, ← hf] at hparked
  exact hstart.trans hparked

/-- The ACQUIRE of a hunt is begun (R125, R133). -/
theorem Part.beginHandover_acquires {p : Part} {site : Nat} {r : SiteRecord} {inStep : Bool}
    (hr : p.record site = some r) (hh : p.tuning.holder = none) (hs : p.aff.serving = none)
    (hp : p.tuning.position = .parked) (hf : p.tuning.fault = false) (hmute : p.lines.mute = true)
    (hctx : p.aff.ctx = none) (hsign : p.aff.signingOff = false) (hg : p.sched.gap = none)
    (hstep : p.engine.stepFlag = false) :
    p.beginHandover site .acquire inStep =
      { p with
        engine.cand := none
        aff.machine := .hoTune
        aff.ctx := some
          { target := site, cause := .acquire, oldServing := none, canReturn := false, attempts := 0, cls := none,
            tried := [], waiting := false, inStep := false }
        sup.active := false
        sup.timer := none
        tuning.op := some (freshOp p.params r.channel .away .affiliation)
        tuning.pins := startPins p.params r.channel
        tuning.tuned := none
        tuning.holder := some .affiliation
        lines.txinh := true } := by
  have hno : p.homeGap = false := by simp [Part.homeGap, hg]
  rw [Part.beginHandover_free site .acquire inStep hctx hsign hno]
  dsimp only
  rw [Part.goTune_parked (r := r) (by exact hr) (by exact hh) (by exact hs) (by exact hp) (by exact hf)
    (by exact hmute)]
  simp only [hs, hstep, Bool.false_and]
  rfl

/-- Settles O31: the tunes by `Part.schedReady_samples` and `Part.endHomeGap_free`, the credits by `Part.creditGap_home`
and `Part.creditGap_hunt`, and the offer of a hunt by the two answers to it. -/
theorem gapsRunTheirCourse : Obligations.GapsRunTheirCourse := by
  unfold Obligations.GapsRunTheirCourse
  refine ⟨fun s op g hs hop howner hphase hg => ⟨fun haway hb hconv => ⟨fun home hc hch hp => ?_, fun hserving hp => ?_⟩,
      fun home hc hhome hch hh hw ha hr hm hctx hdue hwork hstep => ?_⟩,
    fun s g home code hs hg hk hsample hnoted hconverting hlast hb hconv hwait hc hh hop hp h0 h1 => ?_,
    fun s tag args b r g hf hg hlisten ht hgc hrec hrc hb hconv hplace hh hop h0 h1 =>
      ⟨fun home hk hm hp hc => ?_, fun hk hm hserving hctx hsign hdue hp hfault hw ha hr hwork hstep => ?_⟩⟩
  · have hready : s.part.opReady op =
        ({ s.part with
          tuning.op := none, tuning.tuned := some op.channel, tuning.position := .away } : Part).schedReady := by
      simp only [Part.opReady, Part.endReady_elsewhere hc hch hp (Part.driven_of_settled hs), howner, Part.handReady]
    rw [Part.schedReady_samples (by exact hg) haway (by exact hb) (by exact hconv)] at hready
    exact exec_settleExpiry_ready hop hphase hready (Part.settled_away hs hp (by simp) rfl rfl rfl rfl rfl rfl)
  · have hready : s.part.opReady op =
        ({ s.part with
          tuning.op := none, tuning.tuned := some op.channel, tuning.position := .parked, tuning.fault := false } :
            Part).schedReady := by
      simp only [Part.opReady, Part.endReady_parked op hserving hp (Part.driven_of_settled hs), howner, Part.handReady]
    rw [Part.schedReady_samples (by exact hg) haway (by exact hb) (by exact hconv)] at hready
    exact exec_settleExpiry_ready hop hphase hready (Part.settled_away hs hp (by simp) rfl rfl rfl rfl rfl rfl)
  · have hready : s.part.opReady op =
        ({ s.part.tunedHome home with lines := s.part.lines.withMute false } : Part).endHomeGap := by
      simp only [Part.opReady, Part.endReady_home hc hch,
        Part.tunedHome_driven home hm (Part.serving_of_channel hc) (Part.driven_of_settled hs), howner, Part.handReady]
      exact Part.schedReady_ends hg hhome
    rw [Part.endHomeGap_free (by exact hh) rfl (by exact hw) (by exact ha) (by exact hr) (by exact hctx) (by exact hdue)
      (by exact hwork)] at hready
    have htxinh := Part.txinh_atRest (Part.driven_of_settled hs) (by rw [hm]; rfl)
    have hfed := Part.fed_of_settled hs
    refine exec_settleExpiry_ready hop hphase hready (Part.settled_of (Part.live_of_noStep (by exact hstep)) hfed ?_)
    simp [Part.outputsDriven, Lines.withMute, hm, htxinh, HoState.atRest, Part.serving_of_channel hc]
  · let q : Part := { s.part with
      sched.gap := some { g with run := g.run.add (levelOfCode s.part.params code) }
      conv.state := .idle }
    have hq : q.HoldsAway home := { serving := hc, holds := hh, quiet := hop, away := hp }
    have hcredit := Part.creditGap_home (g := { g with run := g.run.add (levelOfCode s.part.params code) }) hq
      (Part.driven_of_settled hs) (by simp [hk]) h0 h1
    have hsampling : s.part.sampling .converting = true := by simp [Part.sampling, hconv, Part.run, hb, hg, hconverting]
    have htake := (Part.takeSample_lastOfShort code hg hk hlast hb hwait).trans hcredit
    have hsettled : (s.part.takeSample code).settledOutside = true := by
      rw [htake]
      exact Part.sentHome_settled (by exact hs) (by exact hp)
    have hexec : exec (.rssiConversionDone code) s = .next (s.withPart (s.part.takeSample code).finish) := by
      show execRssiConversionDone code s = _
      rw [execRssiConversionDone, if_pos hsampling]
    rw [hexec, Part.finish_of_settled hsettled, htake]
    simp only [Gap.creditedTable, Gap.creditTo, hnoted]
    rfl
  · have hheld : ({ s.part with table := s.part.confirmedBy b } : Part).HoldsAway home :=
      { serving := ((s.part.confirmedBy_places b).servingChannel rfl).trans hc
        holds := hh
        quiet := hop
        away := hp }
    have hdriven := Part.hears_driven hf.heard
    have hcredit := (Part.takeFrame_listening hg hlisten ht hgc hrec hrc (by simp [hm, HoState.atRest]) (fun _ => hp) h0
      h1).trans (Part.creditGap_home (g := g.noting b.site) hheld (by exact hdriven) (by simp [Gap.noting, hk]) h0 h1)
    dsimp only at hcredit
    rw [Gap.creditedTable_noting] at hcredit
    have hlive := Part.hears_live hf.heard
    exact hf.replied hcredit hlive (Part.driven_away hdriven hp (by simp [Part.sentHome]) rfl rfl)
  · let q : Part := { s.part with
      table := s.part.table.map (Option.map (SiteRecord.heard b s.part.params g.run.mean s.part.aff.serving)) }
    have hfound : (q.huntOver (g.noting b.site)).record b.site =
        some (({ r with confirm := some 0, load := some b.load } : SiteRecord).credited s.part.params g.run.mean) :=
      Part.record_heard rfl hrec
    have htake := (Part.takeFrame_listening hg hlisten ht hgc hrec hrc (by rw [hm]; rfl) (by simp [hm]) h0 h1).trans
      (Part.creditGap_huntHeard hk h0 h1)
    have hlive := Part.hears_live hf.heard
    have hdriven := Part.hears_driven hf.heard
    refine ⟨fun hmean hid hblocked hrun => ?_, fun hrefused => ?_⟩
    · have hmute : s.part.lines.mute = true := Part.muted_away hdriven (by simp [hp])
      rw [if_pos hmean, Part.endHuntGap_offer b.site (by exact hk) (by exact hh) (by exact hop) (by exact hw) (by exact ha)
        (by exact hr), Part.offerAcquire_begins _ hfound (by exact hm) (by exact hid) rfl (by exact hblocked)
        (by exact hrun) (by exact h0) (by exact h1), Part.beginHandover_acquires hfound rfl (by exact hserving)
        (by exact hp) (by exact hfault) (by exact hmute) (by exact hctx) (by exact hsign) rfl (by exact hstep),
        Part.considerHunt_noWork (by exact hwork)] at htake
      have hchannel : (({ r with confirm := some 0, load := some b.load } : SiteRecord).credited s.part.params
          g.run.mean).channel = b.channel := hrc
      rw [hchannel] at htake
      refine hf.replied htake (Part.live_of_noStep hstep) ?_
      simp [Part.outputsDriven, hp, hmute, HoState.atRest]
    · have hended : s.part.takeFrame (.beacon b) = q.huntOver (g.noting b.site) := by
        by_cases hmean : s.part.params.acceptMin ≤ g.run.mean
        · have hno := hrefused.resolve_left (Nat.not_lt.2 hmean)
          rw [htake, if_pos hmean, Part.endHuntGap_offer b.site (by exact hk) (by exact hh) (by exact hop) (by exact hw)
            (by exact ha) (by exact hr), Part.offerAcquire_refused _ hfound (by exact hstep) (by exact hno),
            Part.considerHunt_noWork (by exact hwork)]
        · rw [htake, if_neg hmean, Part.endHuntGap_free (by exact hk) (by exact hh) (by exact hop) (by exact hw)
            (by exact ha) (by exact hr) (by exact hwork)]
          rfl
      exact hf.replied hended hlive hdriven

end Sys2Proof.Machine
end

section
/-! SUPPORT. A failed handover that can go back: the target's mark, HO_RETURN, and the tune home (R129, R130): the
statement O42. -/

namespace Sys2Proof.Machine

/-! ### What a step's end leaves of a notice -/

/-- A notice queued in a step stands in the queue after it (R185, R191). -/
theorem Part.queues_of_link {p q t : Part} {n : Notice} (hq : q.link = (p.queueNotice n).link)
    (ht : p.link.tx ≠ .idle → t.link.notices = q.link.notices ∧ t.link.lost = q.link.lost) : p.Queues n t := by
  intro hbusy hroom hon
  obtain ⟨hnotices, hlost⟩ := ht hbusy
  rw [hnotices, hlost, hq, Part.queueNotice_room hon hroom]
  exact ⟨rfl, rfl⟩

theorem Part.queueNotice_params (p : Part) (n : Notice) : (p.queueNotice n).params = p.params := by
  unfold Part.queueNotice
  (repeat' split) <;> rfl

/-! ### The marks of R129 -/

/-- The failures that leave a FAILED bar and nothing else (R129). -/
theorem SiteRecord.failTarget_failed {reason : FailReason} {failBar : Nat} (retry : Nat) (h : failBar ≠ 0)
    (hr : reason = .lock ∨ reason = .txNotSent ∨ reason = .noGrant ∨ reason = .abortedPtt) :
    SiteRecord.failTarget reason failBar retry = fun r => { r with bar := some ⟨.failed, failBar⟩ } := by
  funext r
  rcases hr with rfl | rfl | rfl | rfl <;> simp [SiteRecord.failTarget, SiteRecord.setBar, h]

/-- NO_BEACON takes the confirmation too (R129). -/
theorem SiteRecord.failTarget_noBeacon {failBar : Nat} (retry : Nat) (h : failBar ≠ 0) :
    SiteRecord.failTarget .noBeacon failBar retry =
      fun r => { r with bar := some ⟨.failed, failBar⟩, confirm := none } := by
  funext r
  simp [SiteRecord.failTarget, SiteRecord.setBar, h]

theorem SiteRecord.failTarget_notAccepting {failBar : Nat} (retry : Nat) (h : failBar ≠ 0) :
    SiteRecord.failTarget .notAccepting failBar retry = fun r => { r with bar := some ⟨.refused, failBar⟩ } := by
  funext r
  simp [SiteRecord.failTarget, SiteRecord.setBar, h]

/-- A REFUSE bars for its own rounds, or FAIL_BAR with none given (R129). -/
theorem SiteRecord.failTarget_refused {failBar : Nat} (retry : Nat) (h : failBar ≠ 0) :
    SiteRecord.failTarget .refused failBar retry =
      fun r => { r with bar := some ⟨.refused, if retry = 0 then failBar else retry⟩ } := by
  funext r
  by_cases hr : retry = 0 <;> simp [SiteRecord.failTarget, SiteRecord.setBar, h, hr]

/-! ### The failure -/

/-- A part whose handover has failed and goes back, before the tune home is requested (R129, R130). -/
structure Part.FailedBack (p : Part) (ctx : Context) (mark : SiteRecord → SiteRecord) (n : Notice) (q : Part) : Prop where
  table : q.table = p.table.map (Option.map (fun r => if r.site = ctx.target then mark r else r))
  aff : q.aff = { p.aff with machine := .hoReturn, hoTimer := none, registerDue := false }
  tuning : q.tuning = p.tuning
  params : q.params = p.params
  sched : q.sched = p.sched
  engine : q.engine = p.engine
  sup : q.sup = p.sup
  lines : q.lines = p.lines
  conv : q.conv = p.conv
  link : q.link = (p.queueNotice n).link

/-- A failure with can-return set marks the target, queues its notice and asks for the tune home (R129, R130). -/
theorem Part.failHandover_failedBack {ctx : Context} (h : ctx.canReturn = true) (reason : FailReason)
    (refuse : Option RefuseReason) (retry : Nat) (p : Part) :
    ∃ q, p.failHandover ctx reason refuse retry = q.requestReturn .affiliation ∧
      p.FailedBack ctx (SiteRecord.failTarget reason p.params.failBar retry)
        (.handoverFailed ctx.target ctx.cause reason refuse) q ∧ p.SamePlaces q := by
  let n := Notice.handoverFailed ctx.target ctx.cause reason refuse
  let noted : Part := ({ p with aff.hoTimer := none, aff.registerDue := false } : Part).queueNotice n
  obtain ⟨htable, htuning, hsched, hengine, hsup, haff, hlines, hconv⟩ :=
    Part.queueNotice_blocks n { p with aff.hoTimer := none, aff.registerDue := false }
  have hparams := Part.queueNotice_params { p with aff.hoTimer := none, aff.registerDue := false } n
  have hlink := (Part.queueNotice_link_congr (p := p)
    (q := { p with aff.hoTimer := none, aff.registerDue := false }) rfl rfl n).1
  have hmarked := noted.updateRec_eq ctx.target (SiteRecord.failTarget reason noted.params.failBar retry)
  refine ⟨{ noted.updateRec ctx.target (SiteRecord.failTarget reason noted.params.failBar retry) with
    aff.machine := .hoReturn }, by simp only [Part.failHandover, h, if_true]; rfl, ?_, ?_⟩
  · rw [hmarked]
    exact
      { table := by dsimp only; rw [htable, hparams]
        aff := by dsimp only; rw [haff]
        tuning := htuning
        params := hparams
        sched := hsched
        engine := hengine
        sup := hsup
        lines := hlines
        conv := hconv
        link := hlink }
  · have hplaces := Part.updateRec_places (SiteRecord.failTarget_place reason noted.params.failBar retry) ctx.target noted
    exact hplaces.trans (by simp [noted])

/-! ### The tune home -/

/-- The part that a failure leaves, with its notice, and with what every step leaves. -/
structure Part.ComesBack (p : Part) (ctx : Context) (home : Nat) (mark : SiteRecord → SiteRecord) (n : Notice)
    (q : Part) : Prop where
  back : p.GoesBack ctx home mark q
  link : q.link = (p.queueNotice n).link
  live : q.stepRoundLive = true
  driven : q.outputsDriven = true

/-- A tune home asked for by the holder outside a shift starts at once (R33, R35, R36). -/
theorem Part.requestReturn_starts {p : Part} {home : Nat} {o : Owner} (hs : p.servingChannel = some home)
    (hh : p.tuning.holder = some o) (ho : ∀ op, p.tuning.op = some op → op.phase ≠ .shifting)
    (hp : p.tuning.position ≠ .home) :
    p.requestReturn o =
      ({ p with
        tuning.op := some (freshOp p.params home .ret o)
        tuning.pins := startPins p.params home
        tuning.tuned := none
        tuning.holder := some o
        tuning.position := .away } : Part).driveOutputs := by
  refine Eq.trans ?_ (Part.startOp_away (req := ⟨home, .ret⟩) (Part.serving_of_channel hs) (Or.inl hp))
  simp only [Part.requestReturn, hs, Part.requestTune, hh, if_true]
  cases hop : p.tuning.op with
  | none => rfl
  | some op => exact if_neg (ho op hop)

/-- A tune home asked for by the holder during the shift of its own operation starts at the latch (R35). -/
theorem Part.requestReturn_atLatch {p : Part} {op : TuneOp} {home : Nat} {o : Owner} (hs : p.servingChannel = some home)
    (hh : p.tuning.holder = some o) (hop : p.tuning.op = some op) (hphase : op.phase = .shifting)
    (hl : op.atLatch = .proceed) :
    p.requestReturn o = { p with tuning.op := some { op with atLatch := .restart ⟨home, .ret⟩ } } := by
  simp [Part.requestReturn, hs, Part.requestTune, hh, hop, hphase, hl]

/-- A handover that can go back, whose tune does not shift, in a part that stands as every step leaves it. -/
structure Part.MayFail (p : Part) (ctx : Context) (home : Nat) : Prop where
  context : p.aff.ctx = some ctx
  returns : ctx.canReturn = true
  serving : p.servingChannel = some home
  holds : p.tuning.holder = some .affiliation
  latched : ∀ op, p.tuning.op = some op → op.phase ≠ .shifting
  away : p.tuning.position ≠ .home
  live : p.stepRoundLive = true
  driven : p.outputsDriven = true

/-- Such a handover that fails goes back (R129, R130). -/
theorem Part.MayFail.comesBack {p : Part} {ctx : Context} {home : Nat} (h : p.MayFail ctx home) (reason : FailReason)
    (refuse : Option RefuseReason) (retry : Nat) :
    p.ComesBack ctx home (SiteRecord.failTarget reason p.params.failBar retry)
      (.handoverFailed ctx.target ctx.cause reason refuse) (p.failHandover ctx reason refuse retry) := by
  obtain ⟨q, hq, hfailed, hplaces⟩ := Part.failHandover_failedBack h.returns reason refuse retry p
  have hserving : q.servingChannel = some home := (hplaces.servingChannel (by rw [hfailed.aff])).trans h.serving
  have hstart := Part.requestReturn_starts hserving (by rw [hfailed.tuning]; exact h.holds)
    (by rw [hfailed.tuning]; exact h.latched) (by rw [hfailed.tuning]; exact h.away)
  rw [Part.driveOutputs_away (by simp)] at hstart
  have hmute := Part.muted_away h.driven h.away
  rw [hq, hstart]
  exact
    { back :=
        { table := hfailed.table
          aff := hfailed.aff
          tuning := by dsimp only; rw [hfailed.tuning, hfailed.params]
          params := hfailed.params
          sched := hfailed.sched
          engine := hfailed.engine
          sup := hfailed.sup
          lines := by simp only [hfailed.lines, hfailed.aff, hmute, if_true]; rfl
          conv := hfailed.conv }
      link := hfailed.link
      live := Part.live_congr h.live (by simp [hfailed.engine]) (by simp [hfailed.sched]) (by simp [hfailed.aff])
      driven := by simp [Part.outputsDriven] }

/-- A notice queued by what a step does stands in its next state (R185, R191). -/
theorem Part.queues_finish {p q : Part} {n : Notice} (hlink : q.link = (p.queueNotice n).link)
    (hlive : q.stepRoundLive = true) (hdriven : q.outputsDriven = true) : p.Queues n q.finish := by
  rw [Part.finish_of_live hlive hdriven]
  refine Part.queues_of_link hlink (fun hbusy => ?_)
  rw [Part.startSending_of_fed (by simp [Part.transmitterFed, hlink, hbusy])]
  exact ⟨rfl, rfl⟩

/-- What a failure does stands in the step's next state (R129, R130). -/
theorem Part.ComesBack.finished {p q : Part} {ctx : Context} {home : Nat} {mark : SiteRecord → SiteRecord} {n : Notice}
    (h : p.ComesBack ctx home mark n q) : p.GoesBack ctx home mark q.finish ∧ p.Queues n q.finish := by
  refine ⟨?_, Part.queues_finish h.link h.live h.driven⟩
  rw [Part.finish_of_live h.live h.driven]
  obtain ⟨hparams, htable, htuning, hsched, hengine, hsup, haff, hlines, hconv⟩ := q.startSending_blocks
  exact
    { table := htable.trans h.back.table
      aff := haff.trans h.back.aff
      tuning := htuning.trans h.back.tuning
      params := hparams.trans h.back.params
      sched := hsched.trans h.back.sched
      engine := hengine.trans h.back.engine
      sup := hsup.trans h.back.sup
      lines := hlines.trans h.back.lines
      conv := hconv.trans h.back.conv }

/-- The same with the reply to the frame that brought it. -/
theorem Part.ComesBack.replied {p q : Part} {ctx : Context} {home : Nat} {mark : SiteRecord → SiteRecord} {n : Notice}
    (h : p.ComesBack ctx home mark n q) (r : Reply) :
    p.GoesBack ctx home mark (q.replied r) ∧ p.Queues n (q.replied r) := by
  obtain ⟨htable, haff, htuning, hparams, hsched, hengine, hsup, hlines, hconv⟩ := h.back
  exact ⟨⟨htable, haff, htuning, hparams, hsched, hengine, hsup, hlines, hconv⟩,
    Part.queues_of_link h.link (fun _ => ⟨rfl, rfl⟩)⟩

/-- A failure during the shift of the tune away: the tune home waits for the latch (R35, R131). -/
theorem Part.failHandover_atLatch {p : Part} {ctx : Context} {op : TuneOp} {home : Nat} (hr : ctx.canReturn = true)
    (hs : p.servingChannel = some home) (hh : p.tuning.holder = some .affiliation) (hop : p.tuning.op = some op)
    (hphase : op.phase = .shifting) (hl : op.atLatch = .proceed) (reason : FailReason) (refuse : Option RefuseReason)
    (retry : Nat) :
    ∃ q, p.failHandover ctx reason refuse retry =
        { q with tuning.op := some { op with atLatch := .restart ⟨home, .ret⟩ } } ∧
      p.FailedBack ctx (SiteRecord.failTarget reason p.params.failBar retry)
        (.handoverFailed ctx.target ctx.cause reason refuse) q := by
  obtain ⟨q, hq, hfailed, hplaces⟩ := Part.failHandover_failedBack hr reason refuse retry p
  have hserving : q.servingChannel = some home := (hplaces.servingChannel (by rw [hfailed.aff])).trans hs
  exact ⟨q, hq.trans (Part.requestReturn_atLatch hserving (by rw [hfailed.tuning]; exact hh)
    (by rw [hfailed.tuning]; exact hop) hphase hl), hfailed⟩

/-! ### The events -/

/-- The target's beacon in HO_LISTEN that does not accept (R121, R126). -/
theorem Part.takeFrame_notAccepting {p : Part} {b : Beacon} {r : SiteRecord} {ctx : Context}
    (hctx : p.aff.ctx = some ctx) (hm : p.aff.machine = .hoListen) (hs : b.site = ctx.target) (ha : b.accepting = false)
    (ht : p.tuning.tuned = some b.channel) (hr : p.record b.site = some r) (hc : r.channel = b.channel)
    (hg : p.sched.gap = none) (h0 : p.engine.watch0 = none) (h1 : p.engine.watch1 = none) :
    p.takeFrame (.beacon b) =
      ({ p with table := p.confirmedBy b } : Part).failHandover ctx .notAccepting none 0 := by
  have htarget : p.target = some r.site := by
    simp [Part.target, hm, hctx, (Part.record_some hr).2, hs]
  have hw := Part.beaconWrites_confirmed hr hc (Part.confirmHeld_target htarget) h0 h1
  simp only [Part.takeFrame, Part.takeBeacon, ht, if_true, hw]
  simp [Part.handOnBeacon, hm, Part.openGap, hg, hctx, hs, Part.targetBeacon, ha]

/-- A REFUSE of the target for this radio (R119, R122). -/
theorem Part.takeFrame_refuse {p : Part} {ctx : Context} {unit : Nat} (reason : RefuseReason) (retry : Nat)
    (hu : p.aff.identity.map Identity.unit = some unit) (hctx : p.aff.ctx = some ctx)
    (hm : p.aff.machine = .hoSend ∨ p.aff.machine = .hoGrant) :
    p.takeFrame (.refuse ctx.target unit reason retry) = p.failHandover ctx .refused (some reason) retry := by
  have hanswer : p.answering ctx.target = some ctx := by simp [Part.answering, hctx, hm]
  simp only [Part.takeFrame, Part.ownUnit_of hu, hanswer]

/-- With no REGISTER and no DEREGISTER due the end of a request issues nothing (R124). -/
theorem Part.issueWaiting_nothing {p : Part} (hr : p.aff.registerDue = false) (hd : p.aff.deregisterDue = false) :
    p.issueWaiting = p := by
  unfold Part.issueWaiting
  split
  · rfl
  · rw [if_neg (by simp [hr]), if_neg (by simp [hd])]

/-- A REGISTER that ends NOT_SENT in HO_SEND fails its handover (R124, R126). -/
theorem Part.endTx_register {p : Part} {tx : TxReq} {ctx : Context} (hk : tx.kind = .register)
    (hctx : p.aff.ctx = some ctx) (hm : p.aff.machine = .hoSend) (hdue : p.aff.registerDue = false) :
    p.endTx tx .notSent =
      (({ p with aff.tx := none, aff.txTimer := none } : Part).failHandover ctx .txNotSent none 0).issueWaiting := by
  have hgoes : ({ p with aff.tx := none, aff.txTimer := none } : Part).registerEnded .notSent =
      ({ p with aff.tx := none, aff.txTimer := none } : Part).failHandover ctx .txNotSent none 0 := by
    simp only [Part.registerEnded, hctx, hm, hdue]
    rfl
  simp only [Part.endTx, hk, hgoes]

/-- PTT becomes active, with no burst and no gap to end and no interval to note it in (R104, R169). -/
theorem Part.takeLevel_ptt {p : Part} (hx : p.lines.ptt.debounced = some (!p.lines.ptt.raw))
    (ha : p.lines.ptt.polarity.activeAt p.lines.ptt.raw = true) (hr : p.lines.ptt.report = false)
    (hb : p.sched.burst = none) (hg : p.sched.gap = none) (ht : p.sup.timer = none) :
    p.takeLevel .ptt =
      ({ p with lines.ptt := { p.lines.ptt with debounced := some p.lines.ptt.raw, timer := none } } : Part).affPtt := by
  let pressed : Part :=
    { p with lines.ptt := { p.lines.ptt with debounced := some p.lines.ptt.raw, timer := none } }
  have hwas : p.lines.ptt.active = false := by
    cases hpol : p.lines.ptt.polarity <;> simp_all [InputLine.active, Polarity.activeAt]
  have hnow : pressed.active .ptt = true := ha
  have hmark : pressed.judgeMark .ptt = pressed := by simp [Part.judgeMark, Lines.get, pressed, hr]
  have hquiet : pressed.schedPtt.notePtt = pressed := by
    have hburst : pressed.discardBurst = pressed := Part.discardBurst_none hb
    simp [Part.schedPtt, hburst, Part.abortHomeGap, Part.abortHuntGap, Part.notePtt, pressed, hg, ht]
  calc p.takeLevel .ptt
    _ = (pressed.judgeMark .ptt).activeChange .ptt p.lines.ptt.active := by
      simp only [Part.takeLevel, Lines.get, hx, Option.isSome_some, if_true]; rfl
    _ = pressed.becameActive .ptt := by simp only [hmark, Part.activeChange, hwas, hnow]
    _ = pressed.affPtt := by rw [Part.becameActive, hquiet]

/-- PTT aborts a handover that can go back, in HO_TUNE and HO_LISTEN (R131). -/
theorem Part.affPtt_aborts {p : Part} {ctx : Context} (hctx : p.aff.ctx = some ctx) (hr : ctx.canReturn = true)
    (hm : p.aff.machine = .hoTune ∨ p.aff.machine = .hoListen) : p.affPtt = p.failHandover ctx .abortedPtt none 0 := by
  rcases hm with hm | hm <;> simp [Part.affPtt, hctx, hr, hm]

/-- The lock wait of a handover's tune away runs out (R32, R126). -/
theorem Part.lockFailed_handover {p : Part} {op : TuneOp} {ctx : Context} (hk : op.kind = .away)
    (ho : op.owner = .affiliation) (ht : p.tuning.tuned = none) (hctx : p.aff.ctx = some ctx)
    (hm : p.aff.machine = .hoTune) (hs : p.aff.serving.isSome = true) (hp : p.tuning.position ≠ .home)
    (hd : p.outputsDriven = true) :
    p.lockFailed op =
      ({ p with tuning.op := none, tuning.position := .away } : Part).failHandover ctx .lock none 0 := by
  simp only [Part.lockFailed, hk, Part.endFailed_away hs ht hp hd, ho, Part.handFailed, Part.affFailed, hm, hctx]

/-- Settles O42: each failure is `Part.failHandover` on a part that `Part.MayFail`, and so comes back; PTT during the
shift leaves the tune home to the latch. -/
theorem eachFailureGoesBack : Obligations.EachFailureGoesBack := by
  unfold Obligations.EachFailureGoesBack
  intro s ctx home hs hmid hbar failed
  have hlive := Part.live_of_settled hs
  have hdriven := Part.driven_of_settled hs
  have hctx : s.part.aff.ctx = some ctx := hmid.context
  have hserving : s.part.servingChannel = some home := hmid.serving
  refine ⟨fun op hop hkind howner hwait ht hm => ?_, fun hop => ?_, ?_⟩
  · let q : Part := { s.part with tuning.op := none, tuning.position := .away }
    have hq : q.MayFail ctx home :=
      { context := hctx, returns := hmid.returns, serving := hserving, holds := hmid.holds
        latched := fun _ h => nomatch h
        away := by simp [q]
        live := hlive
        driven := Part.driven_away hdriven hmid.away (by simp [q]) rfl rfl }
    obtain ⟨hback, hqueues⟩ := (hq.comesBack .lock none 0).finished
    rw [SiteRecord.failTarget_failed 0 (by exact hbar) (by simp)] at hback
    obtain ⟨htable, haff, htuning, hparams, hsched, hengine, hsup, hlines, hconv⟩ := hback
    refine ⟨_, exec_lockFailed hop hwait, ?_⟩
    rw [Part.lockFailed_handover hkind howner ht hctx hm (Part.serving_of_channel hserving) hmid.away hdriven]
    exact ⟨⟨htable, haff, htuning, hparams, hsched, hengine, hsup, hlines, hconv⟩, hqueues⟩
  · have hfail : s.part.MayFail ctx home :=
      { context := hctx, returns := hmid.returns, serving := hserving, holds := hmid.holds
        latched := fun _ h => nomatch hop.symm.trans h
        away := hmid.away, live := hlive, driven := hdriven }
    refine ⟨fun ht => ?_, fun tag args b r hf hm hsite ha htuned hr hc hg h0 h1 => ?_, fun ht htries => ?_,
      fun tx htx htimer hk hm hdue hoff => ?_, fun tag args unit reason retry hf hu hm => ?_⟩
    · have hexec : exec .beaconWaitExpiry s =
          .next (s.withPart (s.part.failHandover ctx .noBeacon none 0).finish) := by
        show execBeaconWaitExpiry s = _
        rw [execBeaconWaitExpiry, if_pos (by simp [Aff.timerIs, ht])]
        simp only [Part.beaconWaitExpiry, hctx]
      have hback := (hfail.comesBack .noBeacon none 0).finished
      rw [SiteRecord.failTarget_noBeacon 0 hbar] at hback
      exact ⟨_, hexec, hback⟩
    · let q : Part := { s.part with table := s.part.confirmedBy b }
      have hq : q.MayFail ctx home :=
        { context := hctx, returns := hmid.returns
          serving := ((s.part.confirmedBy_places b).servingChannel rfl).trans hserving
          holds := hmid.holds, latched := hfail.latched, away := hmid.away, live := hlive, driven := hdriven }
      have hcomes := hq.comesBack .notAccepting none 0
      have hback := hcomes.replied ⟨0x90, tag, .ok, []⟩
      rw [SiteRecord.failTarget_notAccepting 0 (by exact hbar)] at hback
      exact ⟨_, hf.replied (Part.takeFrame_notAccepting hctx hm hsite ha htuned hr hc hg h0 h1) hcomes.live
        hcomes.driven, hback⟩
    · have hexec : exec .grantWaitExpiry s =
          .next (s.withPart (s.part.failHandover ctx .noGrant none 0).finish) := by
        show execGrantWaitExpiry s = _
        rw [execGrantWaitExpiry, if_pos (by simp [Aff.timerIs, ht])]
        simp only [Part.grantWaitExpiry, hctx, if_neg (Nat.not_lt.2 htries)]
      have hback := (hfail.comesBack .noGrant none 0).finished
      rw [SiteRecord.failTarget_failed 0 hbar (by simp)] at hback
      exact ⟨_, hexec, hback⟩
    · let q : Part := { s.part with aff.tx := none, aff.txTimer := none }
      have hq : q.MayFail ctx home :=
        { context := hctx, returns := hmid.returns, serving := hserving, holds := hmid.holds, latched := hfail.latched
          away := hmid.away, live := hlive, driven := hdriven }
      have hcomes := hq.comesBack .txNotSent none 0
      have hend : s.part.endTx tx .notSent = q.failHandover ctx .txNotSent none 0 :=
        (Part.endTx_register hk hctx hm hdue).trans
          (Part.issueWaiting_nothing (by rw [hcomes.back.aff]) (by rw [hcomes.back.aff]; exact hoff))
      have hexec : exec .txWaitExpiry s =
          .next (s.withPart (q.failHandover ctx .txNotSent none 0).finish) := by
        show execTxWaitExpiry s = _
        simp only [execTxWaitExpiry, htx, htimer, if_true, hend]
      have hback := hcomes.finished
      rw [SiteRecord.failTarget_failed 0 (by exact hbar) (by simp)] at hback
      exact ⟨_, hexec, hback⟩
    · have hcomes := hfail.comesBack .refused (some reason) retry
      have hback := hcomes.replied ⟨0x90, tag, .ok, []⟩
      rw [SiteRecord.failTarget_refused retry hbar] at hback
      exact ⟨_, hf.replied (Part.takeFrame_refuse reason retry hu hctx hm) hcomes.live hcomes.driven, hback⟩
  · intro x pressed hxt hx ha hr hb hg ht
    have hexec (hm : s.part.aff.machine = .hoTune ∨ s.part.aff.machine = .hoListen) :
        exec (.debounceExpiry .ptt) s =
          .next (s.withPart (pressed.failHandover ctx .abortedPtt none 0).finish) := by
      have hlevel : s.part.takeLevel .ptt = pressed.failHandover ctx .abortedPtt none 0 :=
        (Part.takeLevel_ptt hx ha hr hb hg ht).trans (Part.affPtt_aborts (p := pressed) hctx hmid.returns hm)
      show execDebounceExpiry .ptt s = _
      rw [execDebounceExpiry, if_pos (by exact hxt), hlevel]
    have hmark : SiteRecord.failTarget .abortedPtt pressed.params.failBar 0 = failed :=
      SiteRecord.failTarget_failed 0 hbar (by simp)
    have hback (hop : ∀ op, s.part.tuning.op = some op → op.phase ≠ .shifting) :
        pressed.GoesBack ctx home failed (pressed.failHandover ctx .abortedPtt none 0).finish ∧
          s.part.Queues (.handoverFailed ctx.target ctx.cause .abortedPtt none)
            (pressed.failHandover ctx .abortedPtt none 0).finish := by
      have hq : pressed.MayFail ctx home :=
        { context := hctx, returns := hmid.returns, serving := hserving, holds := hmid.holds, latched := hop
          away := hmid.away, live := hlive, driven := hdriven }
      have h := (hq.comesBack .abortedPtt none 0).finished
      rw [hmark] at h
      exact h
    refine ⟨fun hop hm => ⟨_, hexec (.inr hm), hback (fun op h => nomatch hop.symm.trans h)⟩,
      fun op hop hm => ⟨fun hphase => ⟨_, hexec (.inl hm), hback (fun o h => ?_)⟩, fun hphase hlatch =>
        ⟨_, hexec (.inl hm), ?_⟩⟩⟩
    · rwa [← Option.some.inj (hop.symm.trans h)]
    · obtain ⟨q, hq, hfailed⟩ := Part.failHandover_atLatch (p := pressed) hmid.returns hserving hmid.holds hop hphase
        hlatch .abortedPtt none 0
      rw [hmark] at hfailed
      have hrest : pressed.aff.machine.atRest = false := by simp [pressed, hm, HoState.atRest]
      have hdrivenq : q.outputsDriven = true := Part.outputsDriven_away hfailed.tuning hfailed.lines hrest
        (by rw [hfailed.aff]; rfl) hdriven
      have hliveq : q.stepRoundLive = true := Part.live_congr (p := pressed) hlive (by rw [hfailed.engine])
        (by rw [hfailed.sched]) (by rw [hfailed.aff])
      rw [hq]
      refine ⟨?_, ?_, ?_, Part.queues_finish (p := pressed) hfailed.link hliveq hdrivenq⟩
      · simp [hfailed.tuning, pressed]
      · simp [hfailed.aff, pressed]
      · simp [hfailed.table, pressed]

end Sys2Proof.Machine
end

section
/-! SUPPORT. The further samples of a run (R43, R60): the statement O33. -/

namespace Sys2Proof.Machine

theorem Part.mapRun_burst {p : Part} {b : Burst} (hb : p.sched.burst = some b) (f : SampleRun → SampleRun) :
    p.mapRun f = { p with sched.burst := some { b with run := f b.run } } := by
  simp only [Part.mapRun, hb]

theorem Part.mapRun_gap {p : Part} {g : Gap} (hb : p.sched.burst = none) (hg : p.sched.gap = some g)
    (f : SampleRun → SampleRun) : p.mapRun f = { p with sched.gap := some { g with run := f g.run } } := by
  simp only [Part.mapRun, hb, hg, Option.map_some]

theorem Part.run_burst {p : Part} {b : Burst} (hb : p.sched.burst = some b) : p.run = some b.run := by
  simp only [Part.run, hb]

theorem Part.run_gap {p : Part} {g : Gap} (hb : p.sched.burst = none) (hg : p.sched.gap = some g) :
    p.run = some g.run := by
  simp only [Part.run, hb, hg, Option.map_some]

/-- A change of the run now being taken is what it says, whether a burst's or a gap's. -/
theorem Part.run_mapRun (f : SampleRun → SampleRun) (p : Part) : (p.mapRun f).run = p.run.map f := by
  cases hb : p.sched.burst with
  | some b => rw [Part.mapRun_burst hb, Part.run_burst hb]; rfl
  | none => cases hg : p.sched.gap <;> simp [Part.mapRun, Part.run, hb, hg]

theorem Part.sampling_of {p : Part} {run : SampleRun} (hc : p.conv.state = .rssi) (hr : p.run = some run) :
    p.sampling run.phase = true := by
  simp [Part.sampling, hc, hr]

/-- A sample that is not the last leaves the spacing running (R43, R62). -/
theorem SampleRun.add_further {run : SampleRun} (q : Nat) (h : run.taken + 1 < run.count) :
    run.add q = { run with taken := run.taken + 1, sum := run.sum + q, phase := .spacing } := by
  simp only [SampleRun.add, if_neg (Nat.not_le.2 h)]

/-- The spacing that runs out brings the next conversion (R43). -/
theorem exec_sampleTimerExpiry {s : State} {run : SampleRun} (hc : s.part.conv.state = .rssi)
    (hr : s.part.run = some run) (hp : run.phase = .spacing) :
    exec .sampleTimerExpiry s = .next (s.withPart (s.part.mapRun (fun r => { r with phase := .converting }))) := by
  have hsampling := Part.sampling_of hc hr
  rw [hp] at hsampling
  exact if_pos hsampling

/-- A conversion before the last sample adds its level to the run and does nothing else (R43, R60). -/
theorem exec_furtherSample {s : State} {run : SampleRun} (code : Byte) (hs : s.part.settledOutside = true)
    (hc : s.part.conv.state = .rssi) (hr : s.part.run = some run) (hp : run.phase = .converting)
    (hmore : run.taken + 1 < run.count) :
    exec (.rssiConversionDone code) s =
      .next (s.withPart (s.part.mapRun (SampleRun.add (levelOfCode s.part.params code)))) := by
  have hsampling := Part.sampling_of hc hr
  rw [hp] at hsampling
  have hrun : (s.part.mapRun (SampleRun.add (levelOfCode s.part.params code))).run =
      some (run.add (levelOfCode s.part.params code)) := by
    rw [Part.run_mapRun, hr, Option.map_some]
  have htake : s.part.takeSample code = s.part.mapRun (SampleRun.add (levelOfCode s.part.params code)) := by
    simp only [Part.takeSample, hrun, SampleRun.add_further _ hmore, reduceCtorEq, if_false]
  show execRssiConversionDone code s = _
  rw [execRssiConversionDone, if_pos hsampling, htake, Part.finish_of_settled (Part.mapRun_settled _ hs)]

/-- Settles O33: the two events by what they make of the run, which is a burst's or a gap's. -/
theorem samplesAreTakenAndAddedUp : Obligations.SamplesAreTakenAndAddedUp := by
  unfold Obligations.SamplesAreTakenAndAddedUp
  intro s b g code hs hc
  refine ⟨fun hb hp => ?_, fun hb hp hmore => ?_, fun hb hg hp => ?_, fun hb hg hp hmore => ?_⟩
  · rw [exec_sampleTimerExpiry hc (Part.run_burst hb) hp, Part.mapRun_burst hb]
  · rw [exec_furtherSample code hs hc (Part.run_burst hb) hp hmore, Part.mapRun_burst hb, SampleRun.add_further _ hmore]
    rfl
  · rw [exec_sampleTimerExpiry hc (Part.run_gap hb hg) hp, Part.mapRun_gap hb hg]
  · rw [exec_furtherSample code hs hc (Part.run_gap hb hg) hp hmore, Part.mapRun_gap hb hg,
      SampleRun.add_further _ hmore]
    rfl

end Sys2Proof.Machine
end

section
/-! SUPPORT. A long gap whose listen timer runs out with no beacon noted (R50, R52): the statement O35. -/

namespace Sys2Proof.Machine

theorem Part.MidGap.holdsAway {p : Part} {g : Gap} {home : Nat} (h : p.MidGap g home) : p.HoldsAway home :=
  ⟨h.serving, h.holds, h.quiet, h.away⟩

/-- The marks of a visit that heard no beacon: the confirmation goes (R52). -/
theorem SiteRecord.failVisit_noBeacon (failBar : Nat) (r : SiteRecord) :
    r.failVisit failBar true =
      if r.failures < 2 then { r with confirm := none, failures := r.failures + 1 }
      else { r with
        confirm := none
        failures := 0
        bar := if failBar = 0 then r.bar else some ⟨.failed, failBar⟩ } :=
  SiteRecord.failVisit_kept failBar { r with confirm := none }

/-- Settles O35: the visit fails by `Part.failGap_home`, with the marks of a visit that heard no beacon. -/
theorem aVisitWithNoBeaconFails : Obligations.AVisitWithNoBeaconFails := by
  unfold Obligations.AVisitWithNoBeaconFails
  intro s g home hs htimer hnoted _ _ hstanding hmid
  have hfail := Part.failGap_home (g := g) true hmid.holdsAway (Part.driven_of_settled hs) hmid.ofHome hmid.unheld.1
    hmid.unheld.2 hstanding
  have hsettled : (s.part.failGap g true).settledOutside = true := by
    rw [hfail]
    exact Part.sentHome_settled (by exact hs) (by exact hmid.away)
  show execListenExpiry s = _
  simp only [execListenExpiry, hmid.gap, htimer, if_true, Part.listenExpiry, hnoted, Option.isNone_none,
    Part.finish_of_settled hsettled]
  simp only [hfail, SiteRecord.failVisit_noBeacon]
  rfl

end Sys2Proof.Machine
end

section
/-! SUPPORT. A HOME gap that something else needs ended: the abort by its phase (R53), the MOVE that waits for it (R125,
R135): the statement O39. -/

namespace Sys2Proof.Machine

/-! ### The abort of a HOME gap -/

theorem Part.homeGap_of {p : Part} {g : Gap} (hg : p.sched.gap = some g) (hk : g.kind ≠ .hunt) : p.homeGap = true := by
  simp [Part.homeGap, hg, hk]

theorem Part.abortHomeGap_none {p : Part} (hg : p.sched.gap = none) : p.abortHomeGap = p := by
  simp only [Part.abortHomeGap, hg]

/-- A HUNT gap is not a HOME gap, and a gap on its way home goes on (R53). -/
theorem Part.abortHomeGap_goesOn {p : Part} {g : Gap} (hg : p.sched.gap = some g)
    (h : g.kind = .hunt ∨ g.phase = .tuneHome) : p.abortHomeGap = p := by
  simp [Part.abortHomeGap, hg, h]

/-- A HOME gap that holds its channel is sent home (R53). -/
theorem Part.abortHomeGap_sends {p : Part} {g : Gap} {home : Nat} (h : p.MidGap g home) (hp : g.phase ≠ .tuneHome)
    (hd : p.outputsDriven = true) : p.abortHomeGap = p.sentHome g home := by
  have habort : p.abortHomeGap = p.stopRun.gapTuneHome g := by simp [Part.abortHomeGap, h.gap, h.ofHome, hp]
  rw [habort, Part.stopRun_none h.unheld.1 h.unheld.2, Part.gapTuneHome_of_midGap h hd]

/-- A gap that holds its channel does so through a change of anything but what it rests on. -/
theorem Part.MidGap.congr {p q : Part} {g : Gap} {home : Nat} (h : p.MidGap g home) (hg : q.sched.gap = p.sched.gap)
    (hs : q.servingChannel = p.servingChannel) (ht : q.tuning = p.tuning) (hc : q.conv = p.conv) : q.MidGap g home :=
  ⟨hg.trans h.gap, h.ofHome, hs.trans h.serving, ht ▸ h.holds, ht ▸ h.quiet, ht ▸ h.away, hc ▸ h.unheld⟩

/-- A gap sent home leaves the outputs as they are. -/
theorem Part.MidGap.sentHome_driven {p : Part} {g : Gap} {home : Nat} (h : p.MidGap g home)
    (hd : p.outputsDriven = true) : (p.sentHome g home).outputsDriven = true :=
  Part.driven_away hd h.away (by simp [Part.sentHome]) rfl rfl

/-! ### MOVE -/

/-- A handover begun with a HOME gap in flight waits for it to end (R54, R125). -/
theorem Part.beginHandover_waits {p : Part} (target : Nat) (cause : Cause) (ofRound : Bool) (hc : p.aff.ctx = none)
    (hs : p.aff.signingOff = false) (hg : p.homeGap = true) :
    p.beginHandover target cause ofRound =
      ({ p with
        engine.cand := none
        aff.ctx := some
          { target := target, cause := cause, oldServing := p.aff.serving, canReturn := cause.canReturn, attempts := 0,
            cls := none, tried := [], waiting := true, inStep := p.engine.stepFlag && ofRound } } :
        Part).abortHomeGap := by
  simp [Part.beginHandover, hc, hs, hg]

theorem Part.settled_iff (p : Part) :
    p.settled = true ↔ p.aff.machine = .registered ∧ p.aff.ctx = none ∧ p.aff.signingOff = false := by
  simp [Part.settled, and_assoc]

/-- A record on another channel than the serving one is not co-channel (R11). -/
theorem Part.coChannel_elsewhere {p : Part} {r : SiteRecord} {channel : Nat} (hc : p.servingChannel = some channel)
    (h : r.channel ≠ channel) : p.coChannel r = false := by
  simp [Part.coChannel, hc, Ne.symm h]

/-- A MOVE that passes its checks begins the handover (R135). -/
theorem Part.moveTo_begins {p : Part} {site channel home : Nat} {r : SiteRecord} (hsite : siteOk site = true)
    (hset : p.settled = true) (hr : p.record site = some r) (hs : p.aff.serving = some home) (hne : home ≠ site)
    (hc : p.servingChannel = some channel) (hch : r.channel ≠ channel) (hconf : r.confirm.isSome = true) :
    p.moveTo site = (p.beginHandover site .host false).ok [] := by
  have hconfirmed : r.confirm ≠ none := Option.isSome_iff_ne_none.1 hconf
  simp [Part.moveTo, hsite, hset, hr, hs, hne, Part.coChannel_elsewhere hc hch, hconfirmed]

/-- Settles O39: the MOVE passes its checks, and its handover goes straight to its tune or waits for the gap, which goes
on or is sent home. -/
theorem moveBeginsAHandover : Obligations.MoveBeginsAHandover := by
  unfold Obligations.MoveBeginsAHandover
  intro s tag s1 s0 home channel r htag hears hsite hm hctx hoff hr hserving hne hc hch hconf begun
  have hlive := Part.hears_live hears
  have hdriven := Part.hears_driven hears
  have htaken {q : Part} (hq : s.part.beginHandover (u16 s1 s0) .host false = q) (hql : q.stepRoundLive = true)
      (hqd : q.outputsDriven = true) :
      exec (.move [tag, s1, s0]) s = .next (s.withPart (q.replied ⟨0x8F, tag, .ok, []⟩)) := by
    have hanswer : answerMove [s1, s0] s.part = q.ok [] :=
      hq ▸ Part.moveTo_begins hsite ((Part.settled_iff _).2 ⟨hm, hctx, hoff⟩) hr hserving hne hc hch hconf
    exact congrArg (fun p => Host.Outcome.next (s.withPart p)) (Part.command_taken hears htag hanswer hql hqd)
  have hbegunLive {q : Part} (w : Bool) (he : q.engine.stepFlag = s.part.engine.stepFlag)
      (hw : q.sched.work = s.part.sched.work) (hq : q.aff.ctx = some (begun w)) : q.stepRoundLive = true :=
    Part.live_congr hlive he hw (by simp [hq, hctx, begun])
  let waiting : Part := { s.part with engine.cand := none, aff.ctx := some (begun true) }
  have hwaits (hg : s.part.homeGap = true) :
      s.part.beginHandover (u16 s1 s0) .host false = waiting.abortHomeGap := by
    rw [Part.beginHandover_waits _ _ _ hctx hoff hg]
    exact congrArg (fun c => ({ s.part with engine.cand := none, aff.ctx := some c } : Part).abortHomeGap)
      (by simp [begun, hserving, Cause.canReturn])
  refine ⟨fun hgap hholder hburst => htaken ?_ (hbegunLive false rfl rfl rfl) ?_,
    fun g hg hk hphase => htaken ?_ (hbegunLive true rfl rfl rfl) hdriven, fun g hmid hphase => ?_⟩
  · rw [Part.beginHandover_free _ _ _ hctx hoff hgap]
    dsimp only
    rw [Part.goTune_free (r := r) (by exact hr) (by exact hholder) (by exact hburst) (by simp [hserving])]
    simp only [hserving, Bool.and_false]
    rfl
  · simp [Part.outputsDriven, Lines.withMute, HoState.atRest]
  · exact (hwaits (Part.homeGap_of hg hk)).trans (Part.abortHomeGap_goesOn (by exact hg) (.inr hphase))
  · have hwaiting : waiting.MidGap g channel := hmid.congr rfl rfl rfl rfl
    exact htaken ((hwaits (Part.homeGap_of hmid.gap hmid.ofHome)).trans
      (Part.abortHomeGap_sends hwaiting (by simp [hphase]) hdriven)) (hbegunLive true rfl rfl rfl)
      (hwaiting.sentHome_driven hdriven)

end Sys2Proof.Machine
end

section
/-! SUPPORT. The DEREGISTER of a sign-off: issued at once, or at the end of the gap or of the request that it waits for
(R54, R123, R124, R137): the statement O46. -/

namespace Sys2Proof.Machine

/-- The part with its DEREGISTER issued, before the TRANSMIT notice (R123, R137; an absent identity or serving site is
log entry 19). -/
def Part.deregistering (p : Part) : Part :=
  { p with
    aff.deregisterDue := false
    aff.tx := some
      ⟨.deregister, .deregister (p.aff.serving.getD 0) ((p.aff.identity.map Identity.unit).getD 0), 0,
        nextNumber p.aff.lastNumber⟩
    aff.txTimer := some p.params.txWaitMs
    aff.lastNumber := nextNumber p.aff.lastNumber }

theorem Part.issueDeregister_eq (p : Part) :
    p.issueDeregister =
      p.deregistering.queueNotice
        (.transmit (nextNumber p.aff.lastNumber) 0
          (.deregister (p.aff.serving.getD 0) ((p.aff.identity.map Identity.unit).getD 0))) := rfl

/-! ### The command -/

/-- The part of a sign-off whose DEREGISTER is due (R137). -/
def Part.signing (p : Part) : Part := { p with aff.signingOff := true, aff.deregisterDue := true }

theorem Part.beginSignOff_gap {p : Part} (hg : p.homeGap = true) : p.beginSignOff = p.signing.abortHomeGap :=
  if_pos hg

theorem Part.beginSignOff_busy {p : Part} (hg : p.homeGap = false) (ht : p.aff.tx.isSome = true) :
    p.beginSignOff = p.signing :=
  (if_neg (ne_true_of_eq_false hg)).trans (if_pos ht)

theorem Part.beginSignOff_free {p : Part} (hg : p.homeGap = false) (ht : p.aff.tx = none) :
    p.beginSignOff = p.signing.issueDeregister :=
  (if_neg (ne_true_of_eq_false hg)).trans (if_neg (by simp [ht]))

/-- A SIGN OFF taken in REGISTERED (R137). -/
theorem exec_signOff_taken {s : State} {tag : Byte} {q : Part} (htag : tag ≠ 0) (h : s.part.hears = true)
    (hset : s.part.settled = true) (hq : s.part.beginSignOff = q) (hlive : q.stepRoundLive = true)
    (hdriven : q.outputsDriven = true) :
    exec (.signOff [tag]) s = .next (s.withPart (q.replied ⟨0x95, tag, .ok, []⟩)) := by
  have hanswer : answerSignOff [] s.part = q.ok [] := by rw [← hq]; exact if_pos hset
  exact congrArg (fun p => Host.Outcome.next (s.withPart p)) (Part.command_taken h htag hanswer hlive hdriven)

/-- A SIGN OFF of a radio that is not settled is refused (R137). -/
theorem exec_signOff_refused {s : State} {tag : Byte} (htag : tag ≠ 0) (h : s.part.hears = true)
    (hset : s.part.settled = false) :
    exec (.signOff [tag]) s = .next (s.withPart (s.part.replied ⟨0x95, tag, .state, []⟩)) := by
  have hanswer : answerSignOff [] s.part = s.part.refuse .state := if_neg (ne_true_of_eq_false hset)
  exact congrArg (fun p => Host.Outcome.next (s.withPart p)) (Part.command_refused h htag hanswer)

/-! ### The end of the gap -/

/-- A gap's end with no handover issues the DEREGISTER that waits for it (R54, R137). -/
theorem Part.gapEndedReport_deregisters {p : Part} (hc : p.aff.ctx = none) (hd : p.aff.deregisterDue = true)
    (ht : p.aff.tx = none) : p.gapEndedReport = p.issueDeregister := by
  simp [Part.gapEndedReport, hc, hd, ht]

/-- No gap starts while a request is outstanding (R45). -/
theorem Part.considerHomeGap_sending {p : Part} (h : p.aff.tx.isSome = true) :
    p.considerHomeGap.sched.gap = p.sched.gap ∧ p.considerHomeGap.aff = p.aff := by
  refine ⟨?_, by simp⟩
  have hshut (w : RoundWork) : p.passFirstGap.gapPermitted w = false := by
    simp [Part.gapPermitted, Option.isSome_iff_ne_none.1 h]
  unfold Part.considerHomeGap
  split
  · split
    · simp [hshut, Part.skipGaps]
    · rfl
  · rfl

/-- The end of a HOME gap with a DEREGISTER due: no gap in flight, the DEREGISTER issued (R54, R57). -/
theorem Part.endHomeGap_deregisters {p : Part} (hc : p.aff.ctx = none) (hd : p.aff.deregisterDue = true)
    (ht : p.aff.tx = none) : p.endHomeGap.sched.gap = none ∧ p.endHomeGap.aff = p.deregistering.aff := by
  let q : Part := ({ p with sched.gap := none } : Part).releaseReceiver .scheduler
  have haff : q.aff = p.aff := by simp [q]
  have hparams : q.params = p.params := by simp [q]
  have hgap : q.sched.gap = none := by
    have hform : q.sched.gap.map Gap.form = none := by simp [q]
    exact Option.map_eq_none_iff.1 hform
  have hissued : q.issueDeregister.sched.gap = none ∧ q.issueDeregister.aff = p.deregistering.aff := by
    rw [Part.issueDeregister_eq]
    simp [Part.deregistering, haff, hparams, hgap]
  have hend : p.endHomeGap = q.issueDeregister.considerHomeGap := by
    rw [← Part.gapEndedReport_deregisters (by rw [haff, hc]) (by rw [haff, hd]) (by rw [haff, ht])]
    rfl
  obtain ⟨hkept, hkeptAff⟩ := Part.considerHomeGap_sending (p := q.issueDeregister)
    (by rw [hissued.2]; rfl)
  rw [hend]
  exact ⟨hkept.trans hissued.1, hkeptAff.trans hissued.2⟩

/-! ### The end of the answer -/

theorem Part.issueWaiting_deregisters {p : Part} (ht : p.aff.tx = none) (hr : p.aff.registerDue = false)
    (hd : p.aff.deregisterDue = true) (hg : p.homeGap = false) : p.issueWaiting = p.issueDeregister := by
  simp [Part.issueWaiting, ht, hr, hd, hg]

/-- A roll answer that ends leaves the DEREGISTER that waits to be issued (R123, R124). -/
theorem Part.endTx_deregisters {p : Part} {tx : TxReq} (hk : tx.kind = .rollAnswer) (hr : p.aff.registerDue = false)
    (hd : p.aff.deregisterDue = true) (hg : p.homeGap = false) :
    p.endTx tx .notSent = ({ p with aff.tx := none, aff.txTimer := none } : Part).issueDeregister := by
  simp only [Part.endTx, hk]
  exact Part.issueWaiting_deregisters rfl hr hd hg

/-- Settles O46: the command by what stands in its way, and the two ends that issue the DEREGISTER it left due. -/
theorem signOffIssuesDeregister : Obligations.SignOffIssuesDeregister := by
  unfold Obligations.SignOffIssuesDeregister
  intro number frame
  refine ⟨fun s tag htag h => ⟨fun hm hctx hoff => ?_, fun hout => ?_⟩,
    fun s op g home hs hop howner hphase hg hc hhome hk hch hctx hdue htx _ => ?_,
    fun s tx hs htx htimer hk hr hdue hgap => ?_⟩
  · have hlive := Part.hears_live h
    have hdriven := Part.hears_driven h
    have htaken {q : Part} := exec_signOff_taken (q := q) htag h ((Part.settled_iff _).2 ⟨hm, hctx, hoff⟩)
    refine ⟨fun hgap htx => ?_, fun hgap htx => ?_, fun g hg hk hphase => ?_, fun g home hmid hphase => ?_⟩
    · have hissued := s.part.signing.issueDeregister_eq
      exact htaken ((Part.beginSignOff_free hgap htx).trans hissued) (Part.live_of_queueNotice (by exact hlive))
        (Part.driven_of_queueNotice (by exact hdriven))
    · exact htaken (Part.beginSignOff_busy hgap htx) hlive hdriven
    · exact htaken ((Part.beginSignOff_gap (Part.homeGap_of hg hk)).trans
        (Part.abortHomeGap_goesOn (by exact hg) (.inr hphase))) hlive hdriven
    · have hsigning : s.part.signing.MidGap g home := hmid.congr rfl rfl rfl rfl
      exact htaken ((Part.beginSignOff_gap (Part.homeGap_of hmid.gap hmid.ofHome)).trans
        (Part.abortHomeGap_sends hsigning (by simp [hphase]) hdriven)) hlive (hsigning.sentHome_driven hdriven)
  · refine exec_signOff_refused htag h (Bool.eq_false_iff.2 (fun hset => ?_))
    obtain ⟨hm, hctx, hoff⟩ := (Part.settled_iff _).1 hset
    simp [hm, hctx, hoff] at hout
  · have hready : s.part.opReady op = (s.part.tunedHome home).driveOutputs.endHomeGap := by
      simp only [Part.opReady, Part.endReady_home hc hch, howner, Part.handReady]
      exact Part.schedReady_ends hg hhome
    obtain ⟨hgap, haff⟩ := Part.endHomeGap_deregisters (p := (s.part.tunedHome home).driveOutputs) hctx hdue htx
    refine ⟨_, (exec_opReady hop).1 hphase, ?_, ?_⟩
    · simp [hready, hgap]
    · simp only [State.withPart_part, Part.finish_blocks, hready, haff]
      rfl
  · have hend := (Part.endTx_deregisters hk hr hdue hgap).trans (Part.issueDeregister_eq _)
    have hlive := Part.live_of_settled hs
    have hdriven := Part.driven_of_settled hs
    show execTxWaitExpiry s = _
    simp only [execTxWaitExpiry, htx, htimer, if_true, hend]
    rw [Part.finish_of_live (Part.live_of_queueNotice (by exact hlive)) (Part.driven_of_queueNotice (by exact hdriven))]
    rfl

end Sys2Proof.Machine
end

section
/-! SUPPORT. What an input does as its debounced level becomes the raw one (R168 to R170, R172), and what its change
brings the scheduler, the supervision unit and the battery condition (R44, R53, R56, R104, R174): the statement O52. -/

namespace Sys2Proof.Machine

/-! ### The level taken (R168 to R170) -/

/-- The raw level of an input is the one its polarity names as active (R169). -/
def InputLine.pressed (x : InputLine) : Bool := (x.polarity == Polarity.activeHigh) == x.raw

theorem InputLine.activeAt_raw (x : InputLine) : x.polarity.activeAt x.raw = x.pressed := by
  have hlow : (Polarity.activeLow == Polarity.activeHigh) = false := rfl
  cases h : x.polarity <;> simp [InputLine.pressed, Polarity.activeAt, h, hlow]

theorem InputLine.active_of_raw {x : InputLine} (h : x.debounced = some x.raw) : x.active = x.pressed := by
  simp only [InputLine.active, h, InputLine.activeAt_raw]

theorem InputLine.active_of_opposite {x : InputLine} (h : x.debounced = some (!x.raw)) : x.active = !x.pressed := by
  simp only [InputLine.active, h]
  rw [← InputLine.activeAt_raw]
  cases x.polarity <;> simp [Polarity.activeAt]

/-- An input and what its debounce expiry makes of it: a first level is the reference too; a later one, with no change
report, moves alone (R168, R170). -/
def InputLine.Settles (x y : InputLine) : Prop :=
  (x.debounced = none ∧ y = { x with debounced := some x.raw, timer := none, reference := some x.raw }) ∨
    (x.debounced = some (!x.raw) ∧ x.report = false ∧ y = { x with debounced := some x.raw, timer := none })

theorem InputLine.Settles.active {x y : InputLine} (h : x.Settles y) : y.active = x.pressed := by
  rcases h with ⟨-, rfl⟩ | ⟨-, -, rfl⟩ <;> exact InputLine.active_of_raw rfl

/-- With no change report an input sets no mark (R172). -/
theorem Part.judgeMark_unreported {p : Part} {i : Input} (h : (p.lines.get i).report = false) : p.judgeMark i = p := by
  simp [Part.judgeMark, h]

@[simp] theorem Part.setInput_active (i : Input) (x : InputLine) (p : Part) : (p.setInput i x).active i = x.active := by
  simp [Part.active]

/-- A later level: the mark is judged, and a change of the active state acts on the blocks (R169, R172). -/
theorem Part.takeLevel_later {p : Part} {i : Input} (hx : (p.lines.get i).debounced = some (!(p.lines.get i).raw)) :
    p.takeLevel i =
      ((p.setInput i { p.lines.get i with debounced := some (p.lines.get i).raw, timer := none }).judgeMark
        i).activeChange i (!(p.lines.get i).pressed) := by
  simp only [Part.takeLevel, InputLine.active_of_opposite hx, hx, Option.isSome_some, if_true]

/-- An input other than BATT becomes active, by its first level or by a later one (R169). -/
theorem Part.takeLevel_active {p : Part} {i : Input} {y : InputLine} (hb : i ≠ .batt)
    (h : (p.lines.get i).Settles y) (ha : (p.lines.get i).pressed = true) :
    p.takeLevel i = (p.setInput i y).becameActive i := by
  have hy := h.active
  rcases h with ⟨hx, rfl⟩ | ⟨hx, hr, rfl⟩
  · simp only [Part.takeLevel, hx, Option.isSome_none, Bool.false_eq_true, if_false, if_neg hb, Part.activeChange,
      Part.setInput_active, hy, ha]
  · rw [Part.takeLevel_later hx, Part.judgeMark_unreported (by simpa using hr)]
    simp only [Part.activeChange, Part.setInput_active, hy, ha, Bool.not_true]

/-- An input other than BATT that becomes inactive reaches no block (R169). -/
theorem Part.becameInactive_other {p : Part} {i : Input} (hb : i ≠ .batt) : p.becameInactive i = p := by
  cases i with
  | batt => exact absurd rfl hb
  | ptt | call | emerg => rfl

/-- An input other than BATT becomes inactive, or is so from its first level: the level moves alone (R169). -/
theorem Part.takeLevel_inactive {p : Part} {i : Input} {y : InputLine} (hb : i ≠ .batt)
    (h : (p.lines.get i).Settles y) (ha : (p.lines.get i).pressed = false) : p.takeLevel i = p.setInput i y := by
  have hy := h.active
  rcases h with ⟨hx, rfl⟩ | ⟨hx, hr, rfl⟩
  · simp only [Part.takeLevel, hx, Option.isSome_none, Bool.false_eq_true, if_false, if_neg hb, Part.activeChange,
      Part.setInput_active, hy, ha]
  · rw [Part.takeLevel_later hx, Part.judgeMark_unreported (by simpa using hr)]
    simp only [Part.activeChange, Part.setInput_active, hy, ha, Bool.not_false, Part.becameInactive_other hb]

/-- A level of BATT judges the battery condition (R174, R175). -/
theorem Part.takeLevel_batt {p : Part} {y : InputLine} (h : p.lines.batt.Settles y) :
    p.takeLevel .batt = (p.setInput .batt y).judgeDigital := by
  have hy := h.active
  rcases h with ⟨hx, rfl⟩ | ⟨hx, hr, rfl⟩
  · simp only [Part.takeLevel, Lines.get, hx, Option.isSome_none, Bool.false_eq_true, if_false, if_true]
  · rw [Part.takeLevel_later (i := .batt) hx, Part.judgeMark_unreported (by exact hr)]
    simp only [Part.activeChange, Part.setInput_active, Lines.get, hy]
    cases p.lines.batt.pressed <;> rfl

/-- The step of a debounce expiry. -/
theorem exec_debounceExpiry {s : State} {i : Input} {q : Part} (ht : (s.part.lines.get i).timer.isSome = true)
    (hq : s.part.takeLevel i = q) : exec (.debounceExpiry i) s = .next (s.withPart q.finish) := by
  rw [← hq]
  exact if_pos ht

/-- The step of one that leaves nothing owed. -/
theorem exec_debounceExpiry_settled {s : State} {i : Input} {q : Part} (ht : (s.part.lines.get i).timer.isSome = true)
    (hq : s.part.takeLevel i = q) (hs : q.settledOutside = true) :
    exec (.debounceExpiry i) s = .next (s.withPart q) := by
  rw [exec_debounceExpiry ht hq, Part.finish_of_settled hs]

/-- What every step leaves is still there with another level of an input. -/
theorem Part.setInput_settled {p : Part} (i : Input) (x : InputLine) (h : p.settledOutside = true) :
    (p.setInput i x).settledOutside = true := by
  simpa [Part.settledOutside, Part.stepRoundLive, Part.transmitterFed, Part.outputsDriven] using h

/-! ### EMERG (R140, R172) -/

/-- A part with EMERG's line as given and the service request mark set where EMERG is active (R140). -/
def Part.emergTaken (y : InputLine) (p : Part) : Part :=
  { p with lines.emerg := y, aff.request := p.aff.request || p.lines.emerg.pressed }

theorem Part.takeLevel_emerg {p : Part} {y : InputLine} (h : p.lines.emerg.Settles y) :
    p.takeLevel .emerg = p.emergTaken y := by
  unfold Part.emergTaken
  cases ha : p.lines.emerg.pressed with
  | true => rw [Part.takeLevel_active (i := .emerg) (by simp) h ha, Bool.or_true]; rfl
  | false => rw [Part.takeLevel_inactive (i := .emerg) (by simp) h ha, Bool.or_false]; rfl

/-- A change of EMERG to active sets the service request mark, one to inactive leaves it (R140). -/
theorem Part.activeChange_emerg {p : Part} {on : Bool} (h : p.active .emerg = on) :
    p.activeChange .emerg (!on) = { p with aff.request := p.aff.request || on } := by
  cases on <;> simp [Part.activeChange, h, Part.becameActive, Part.becameInactive]

/-- A notice that is queued and a service request that is set come to the same in either order. -/
theorem Part.queueNotice_request (p : Part) (n : Notice) (on : Bool) :
    { p.queueNotice n with aff.request := on } = ({ p with aff.request := on } : Part).queueNotice n := by
  unfold Part.queueNotice
  dsimp only
  split_ifs <;> rfl

/-- The first mark set is told with LINE_CHANGE (R172). -/
theorem Part.judgeMark_first {p : Part} {i : Input} {x : InputLine} (hi : p.lines.get i = x) (hr : x.report = true)
    (hd : x.debounced = some x.raw) (href : x.reference ≠ some x.raw)
    (hm : p.lines.marks = [false, false, false, false]) :
    p.judgeMark i =
      (p.setInput i { x with mark := true }).queueNotice
        (.lineChange (p.setInput i { x with mark := true }).lines.marks
          (p.setInput i { x with mark := true }).lines.levels) := by
  have hmark : x.mark = false := by
    simp only [Lines.marks, List.cons.injEq, and_true] at hm
    obtain ⟨hptt, hcall, hemerg, hbatt⟩ := hm
    rw [← hi]
    cases i <;> assumption
  simp [Part.judgeMark, hi, hr, hd, Ne.symm href, hmark, hm]

/-- A reported change of EMERG, with no mark set before it (R140, R172). -/
theorem Part.takeLevel_emergReported {p : Part} (hx : p.lines.emerg.debounced = some (!p.lines.emerg.raw))
    (hr : p.lines.emerg.report = true) (href : p.lines.emerg.reference ≠ some p.lines.emerg.raw)
    (hm : p.lines.marks = [false, false, false, false]) :
    p.takeLevel .emerg =
      (p.emergTaken { p.lines.emerg with
        debounced := some p.lines.emerg.raw, timer := none, mark := true }).queueNotice
          (.lineChange [false, false, true, false]
            [p.active .ptt, p.active .call, p.lines.emerg.pressed, p.active .batt]) := by
  let y : InputLine := { p.lines.emerg with debounced := some p.lines.emerg.raw, timer := none }
  let q : Part := p.setInput .emerg { y with mark := true }
  let n : Notice := .lineChange [false, false, true, false]
    [p.active .ptt, p.active .call, p.lines.emerg.pressed, p.active .batt]
  have hactive : q.active .emerg = p.lines.emerg.pressed :=
    InputLine.active_of_raw (x := { y with mark := true }) rfl
  have hmarks : q.lines.marks = [false, false, true, false] := by
    simp only [Lines.marks, List.cons.injEq, and_true] at hm
    obtain ⟨hptt, hcall, -, hbatt⟩ := hm
    simp [q, Lines.marks, Lines.set, hptt, hcall, hbatt]
  have hlevels : q.lines.levels = [p.active .ptt, p.active .call, p.lines.emerg.pressed, p.active .batt] := by
    rw [← hactive]; rfl
  have hjudged : (p.setInput .emerg y).judgeMark .emerg = q.queueNotice n := by
    have hfirst := Part.judgeMark_first (p := p.setInput .emerg y) (i := .emerg) (x := y) rfl hr rfl href hm
    rw [hfirst]
    exact congrArg₂ (fun marks levels => q.queueNotice (.lineChange marks levels)) hmarks hlevels
  have hnow : (q.queueNotice n).active .emerg = p.lines.emerg.pressed := by
    rw [← hactive]
    simp [Part.active]
  rw [Part.takeLevel_later (i := .emerg) hx]
  refine (congrArg (fun r => Part.activeChange .emerg (!p.lines.emerg.pressed) r) hjudged).trans ?_
  have hrequest : (q.queueNotice n).aff.request = p.aff.request := by simp [q]
  rw [Part.activeChange_emerg hnow, hrequest]
  exact Part.queueNotice_request q n _

/-! ### PTT and CALL (R44, R53, R56, R104) -/

/-- PTT becoming active is noted for the interval whose timer runs (R104). -/
theorem Part.notePtt_eq (p : Part) :
    p.notePtt = { p with sup.pttNoted := p.sup.pttNoted || p.sup.timer.isSome } := by
  unfold Part.notePtt
  cases h : p.sup.timer <;> simp

theorem Part.affPtt_idle {p : Part} (h : p.aff.ctx = none) : p.affPtt = p := by
  simp only [Part.affPtt, h]

theorem Part.abortHuntGap_home {p : Part} (h : ∀ g, p.sched.gap = some g → g.kind ≠ .hunt) : p.abortHuntGap = p := by
  unfold Part.abortHuntGap
  split
  · rename_i g hg
    exact if_neg (h g hg)
  · rfl

/-- PTT or CALL becomes active: the scheduler acts on it, and PTT is noted (R104, R169). The controller has no handover
to abort (R131). -/
theorem Part.takeLevel_pressing {p q : Part} {i : Input} {y : InputLine} (hi : i = .ptt ∨ i = .call)
    (h : (p.lines.get i).Settles y) (ha : (p.lines.get i).pressed = true) (hc : i = .call ∨ p.aff.ctx = none)
    (hptt : i = .ptt → (p.setInput i y).schedPtt = q) (hcall : i = .call → (p.setInput i y).schedCall = q) :
    p.takeLevel i =
      { q with sup.pttNoted := q.sup.pttNoted || (decide (i = .ptt) && q.sup.timer.isSome) } := by
  rw [Part.takeLevel_active (by rcases hi with rfl | rfl <;> simp) h ha]
  rcases hi with rfl | rfl
  · have hctx : q.aff.ctx = none := by
      rw [← hptt rfl]
      simpa using hc
    rw [Part.becameActive, hptt rfl, Part.notePtt_eq, Part.affPtt_idle (by exact hctx)]
    simp
  · rw [Part.becameActive, hcall rfl]
    simp

/-- What the scheduler's coming to the first gap of a HOME round does (R46). -/
theorem Part.passFirstGap_eq (p : Part) :
    p.passFirstGap =
      { p with
        sched.conserve :=
          if p.lines.battery = .low ∧ p.sched.work.any (fun w => w.kind == .home && w.visited.isEmpty) = true then
            p.sched.conserve - 1
          else p.sched.conserve } := by
  unfold Part.passFirstGap
  split
  · rename_i w hw
    have hcond : (p.lines.battery = .low ∧ p.sched.work.any (fun w => w.kind == .home && w.visited.isEmpty) = true) ↔
        (w.kind == .home && w.visited.isEmpty && p.lines.battery == .low) = true := by
      simp [hw, and_comm]
    rw [if_congr hcond rfl rfl]
    split <;> rfl
  · rename_i hw
    rw [if_neg (by simp [hw])]

/-- PTT discards a serving burst that holds the converter, and the round's work with it (R44, R176; the countdown is log
entry 12). -/
theorem Part.discardBurst_held {p : Part} {b : Burst} (hb : p.sched.burst = some b) (hc : p.conv.state = .rssi)
    (hw : p.conv.waiting = none) :
    p.discardBurst =
      { p with
        sched.burst := none
        sched.work := none
        sched.conserve :=
          if p.lines.battery = .low ∧ p.sched.work.any (fun w => w.kind == .home && w.visited.isEmpty) = true then
            p.sched.conserve - 1
          else p.sched.conserve
        conv.state := .idle } := by
  have hstop : p.stopRun = { p with conv.state := .idle } := by
    rw [Part.stopRun_held hc, hw]
    exact congrArg (fun w => ({ p with conv := ⟨.idle, w⟩ } : Part)) hw.symm
  simp only [Part.discardBurst, hb, hstop, Part.passFirstGap_eq, Part.skipGaps]

/-- PTT ends a HUNT gap and its chain: the receiver becomes free, and no further gap is permitted (R55, R56). -/
theorem Part.abortHuntGap_ends {p : Part} {g : Gap} (hg : p.sched.gap = some g) (hk : g.kind = .hunt)
    (hc : p.conv.state ≠ .rssi) (hplace : p.conv.waiting ≠ some .rssi) (hh : p.tuning.holder = some .scheduler)
    (ho : p.tuning.op = none) (hw : p.tuning.waitSched = none) (ha : p.tuning.waitAff = none)
    (hr : p.tuning.retryWaiting = false) (hwork : ∀ w, p.sched.work = some w → w.kind = .hunt)
    (hptt : p.active .ptt = true) :
    p.abortHuntGap = { p with sched.gap := none, sched.work := none, tuning.holder := none } := by
  let q : Part := { p with sched.gap := none, tuning.holder := none }
  have habort : p.abortHuntGap = q.considerHunt := by
    simp only [Part.abortHuntGap, hg, if_pos hk, Part.stopRun_none hc hplace]
    rw [Part.releaseReceiver_free (by exact hh) (by exact ho) (by exact hw) (by exact ha) (by exact hr)]
  have hshut : q.huntPermitted = false := by
    have hqptt : q.active .ptt = true := hptt
    simp [Part.huntPermitted, hqptt]
  rw [habort]
  cases hwk : p.sched.work with
  | none =>
    rw [Part.considerHunt_noWork (by exact hwk)]
    exact congrArg (fun w => ({ q with sched.work := w } : Part)) hwk
  | some w =>
    have hqwork : q.sched.work = some w := hwk
    simp only [Part.considerHunt, hqwork, hwork w hwk, hshut]
    rfl

/-- PTT with no burst in flight leaves a gap on its way home, or none, as it is (R44, R53). -/
theorem Part.schedPtt_quiet {p : Part} (hb : p.sched.burst = none)
    (hg : ∀ g, p.sched.gap = some g → g.kind ≠ .hunt ∧ g.phase = .tuneHome) : p.schedPtt = p := by
  have habort : p.abortHomeGap = p := by
    cases hgap : p.sched.gap with
    | none => exact Part.abortHomeGap_none hgap
    | some g => exact Part.abortHomeGap_goesOn hgap (.inr (hg g hgap).2)
  rw [Part.schedPtt, Part.discardBurst_none hb, habort, Part.abortHuntGap_home (fun g h => (hg g h).1)]

/-- PTT sends a HOME gap home (R53). -/
theorem Part.schedPtt_sends {p : Part} {g : Gap} {home : Nat} (hb : p.sched.burst = none) (h : p.MidGap g home)
    (hp : g.phase ≠ .tuneHome) (hd : p.outputsDriven = true) : p.schedPtt = p.sentHome g home := by
  rw [Part.schedPtt, Part.discardBurst_none hb, Part.abortHomeGap_sends h hp hd, Part.abortHuntGap_home]
  rintro g' ⟨⟩
  exact h.ofHome

/-- PTT with no gap in flight discards the burst alone (R44). -/
theorem Part.schedPtt_discards {p q : Part} (hg : p.sched.gap = none) (hq : p.discardBurst = q)
    (hkept : q.sched.gap = p.sched.gap) : p.schedPtt = q := by
  rw [Part.schedPtt, hq, Part.abortHomeGap_none (hkept.trans hg), Part.abortHuntGap_home (by simp [hkept, hg])]

/-- PTT with a HUNT gap in flight is the abort of that gap (R56). -/
theorem Part.schedPtt_hunt {p : Part} {g : Gap} (hb : p.sched.burst = none) (hg : p.sched.gap = some g)
    (hk : g.kind = .hunt) : p.schedPtt = p.abortHuntGap := by
  rw [Part.schedPtt, Part.discardBurst_none hb, Part.abortHomeGap_goesOn hg (.inl hk)]

/-! ### BATT (R174) -/

theorem Part.setBattery_same {p : Part} {condition : BattCondition} (code : Option Byte)
    (h : p.lines.battery = condition) : p.setBattery condition code = p := if_pos h

theorem Part.setBattery_changed {p : Part} {condition : BattCondition} (code : Option Byte)
    (h : p.lines.battery ≠ condition) :
    p.setBattery condition code =
      ({ p with lines.battery := condition } : Part).queueNotice (.battery condition p.lines.battMode code) := if_neg h

/-! ### The statement -/

/-- Settles O52: EMERG by `Part.takeLevel_emerg`, PTT and CALL by what the scheduler makes of them, BATT by its
judgement of the condition. -/
theorem debounceExpiryTakesTheLevel : Obligations.DebounceExpiryTakesTheLevel := by
  unfold Obligations.DebounceExpiryTakesTheLevel
  refine ⟨fun s hs ht => ⟨fun hx => ?_, fun hx hr => ?_, fun hx hr href hptt hcall hemerg hbatt => ?_⟩,
    fun s i hs ht hi => ⟨fun ha => ?_, fun y ha hy => ?_⟩, fun s hs ht y hy => ?_⟩
  · exact exec_debounceExpiry_settled ht (Part.takeLevel_emerg (.inl ⟨hx, rfl⟩)) hs
  · exact exec_debounceExpiry_settled ht (Part.takeLevel_emerg (.inr ⟨hx, hr, rfl⟩)) hs
  · have hlive := Part.live_of_settled hs
    have hdriven := Part.driven_of_settled hs
    have hmarks : s.part.lines.marks = [false, false, false, false] := by
      simp only [Lines.marks, hptt, hcall, hemerg, hbatt]
    rw [exec_debounceExpiry (i := .emerg) ht (Part.takeLevel_emergReported hx hr href hmarks),
      Part.finish_of_live (Part.live_of_queueNotice (by exact hlive)) (Part.driven_of_queueNotice (by exact hdriven))]
    rfl
  · have hinactive {y : InputLine} (hy : (s.part.lines.get i).Settles y) :=
      exec_debounceExpiry_settled ht (Part.takeLevel_inactive (by rcases hi with rfl | rfl <;> simp) hy ha)
        (Part.setInput_settled i y hs)
    exact ⟨fun hx => hinactive (.inl ⟨hx, rfl⟩), fun hx hr => hinactive (.inr ⟨hx, hr, rfl⟩)⟩
  · have htaken : (s.part.setInput i y).settledOutside = true := Part.setInput_settled i y hs
    have hfed := Part.fed_of_settled htaken
    have hdriven := Part.driven_of_settled htaken
    have hactive : y.active = true := (InputLine.Settles.active hy).trans ha
    have hexec {q : Part} (hc : i = .call ∨ s.part.aff.ctx = none)
        (hptt : i = .ptt → (s.part.setInput i y).schedPtt = q)
        (hcall : i = .call → (s.part.setInput i y).schedCall = q) (hq : q.settledOutside = true) :
        exec (.debounceExpiry i) s =
          .next (s.withPart
            { q with sup.pttNoted := q.sup.pttNoted || (decide (i = .ptt) && q.sup.timer.isSome) }) :=
      exec_debounceExpiry_settled ht (Part.takeLevel_pressing hi hy ha hc hptt hcall) hq
    refine ⟨fun hb hg hc => ?_, fun g home hb hc hmid hphase => ?_, fun b hptt hb hg hc hconv hwait hstep => ?_,
      fun g hptt hb hg hk hc hconv hplace hh hop hw hwa hr hstep hwork => ?_, fun g hg hcase => ?_⟩
    · exact hexec hc (fun _ => Part.schedPtt_quiet hb (by simp [hg])) (fun _ => Part.abortHomeGap_none hg) htaken
    · have hmid' : (s.part.setInput i y).MidGap g home := hmid.congr rfl rfl rfl rfl
      have hnot : g.phase ≠ .tuneHome := by simp [hphase]
      exact hexec hc (fun _ => Part.schedPtt_sends hb hmid' hnot hdriven)
        (fun _ => Part.abortHomeGap_sends hmid' hnot hdriven) (Part.sentHome_settled htaken hmid.away)
    · subst hptt
      have hdiscarded := Part.discardBurst_held (p := s.part.setInput .ptt y) hb hconv hwait
      exact hexec (.inr hc) (fun _ => Part.schedPtt_discards hg hdiscarded rfl) nofun
        (Part.settled_of (Part.live_of_noStep hstep) hfed hdriven)
    · subst hptt
      have hended := (Part.schedPtt_hunt (p := s.part.setInput .ptt y) hb hg hk).trans
        (Part.abortHuntGap_ends hg hk hconv hplace hh hop hw hwa hr hwork hactive)
      exact hexec (.inr hc) (fun _ => hended) nofun
        (Part.settled_of (Part.live_of_noStep hstep) hfed hdriven)
    · rcases hcase with ⟨rfl, hk⟩ | ⟨hk, hphase, hb, hc⟩
      · exact hexec (.inl rfl) nofun (fun _ => Part.abortHomeGap_goesOn hg (.inl hk)) htaken
      · refine hexec hc (fun _ => Part.schedPtt_quiet hb (fun g' hg' => ?_))
          (fun _ => Part.abortHomeGap_goesOn hg (.inr hphase)) htaken
        obtain rfl := Option.some.inj (hg.symm.trans hg')
        exact ⟨hk, hphase⟩
  · have hjudged : s.part.takeLevel .batt =
        (s.part.setInput .batt y).setBattery (if s.part.lines.batt.pressed then .low else .normal) none := by
      have hactive : (s.part.setInput .batt y).active .batt = s.part.lines.batt.pressed :=
        (Part.setInput_active _ _ _).trans (InputLine.Settles.active hy)
      rw [Part.takeLevel_batt hy, Part.judgeDigital, hactive]
    have htaken : (s.part.setInput .batt y).settledOutside = true := Part.setInput_settled .batt y hs
    refine ⟨fun hsame => ?_, fun hchanged => ?_⟩
    · exact exec_debounceExpiry_settled ht (hjudged.trans (Part.setBattery_same none hsame)) htaken
    · have hlive := Part.live_of_settled htaken
      have hdriven := Part.driven_of_settled htaken
      rw [exec_debounceExpiry (i := .batt) ht (hjudged.trans (Part.setBattery_changed none hchanged)),
        Part.finish_of_live (Part.live_of_queueNotice (by exact hlive)) (Part.driven_of_queueNotice (by exact hdriven))]
      rfl

end Sys2Proof.Machine
end

section
/-! SUPPORT. The radio that goes to NONE, whatever its receiver is asked for next (R28, R132), and the event that ends
there with its third target (R94, R95): the statement O43. -/

namespace Sys2Proof.Machine

/-! ### A receiver with no serving site -/

/-- With no serving site the receiver stands PARKED (R28). -/
structure Part.Parked (p : Part) : Prop where
  unserved : p.aff.serving = none
  parked : p.tuning.position = .parked

namespace Part.Parked

variable {p q : Part}

theorem congr (h : p.Parked) (hs : q.aff.serving = p.aff.serving) (hp : q.tuning.position = p.tuning.position) :
    q.Parked :=
  ⟨hs.trans h.unserved, hp.trans h.parked⟩

theorem of_recomputePosition (hs : p.aff.serving = none) : p.recomputePosition.Parked :=
  ⟨by simp [hs], by simp [Part.recomputePosition_tuning, Part.positionNow, hs]⟩

/-- A tune that starts finds the position PARKED again. -/
theorem startOp (h : p.Parked) (owner : Owner) (req : TuneReq) : (p.startOp owner req).Parked :=
  of_recomputePosition h.unserved

theorem serveClients (h : p.Parked) : p.serveClients.Parked := by
  unfold Part.serveClients
  split
  · exact startOp (by exact h.congr rfl rfl) _ _
  · exact startOp (by exact h.congr rfl rfl) _ _
  · exact h

theorem makeRetry (h : p.Parked) : p.makeRetry.Parked := by
  unfold Part.makeRetry
  split
  · exact h.startOp _ _
  · have ht : p.engineReady.tuning = p.tuning := by
      unfold Part.engineReady; split <;> simp [Part.startRunning]
    exact h.congr (by simp) (by rw [ht])

theorem freeReceiver (h : p.Parked) : p.freeReceiver.Parked := by
  unfold Part.freeReceiver
  dsimp only
  split
  · have hr := makeRetry (p := { p with tuning.holder := none, tuning.op := none, tuning.retryWaiting := false })
      (h.congr rfl rfl)
    split
    · exact hr
    · exact hr.serveClients
  · exact serveClients (by exact h.congr rfl rfl)

theorem releaseReceiver (h : p.Parked) (owner : Owner) : (p.releaseReceiver owner).Parked := by
  have hc : (p.clearWaiting owner).Parked := by
    unfold Part.clearWaiting
    split <;> exact h.congr rfl rfl
  unfold Part.releaseReceiver
  dsimp only
  split
  · split
    · split
      · exact hc.congr rfl rfl
      · exact hc.freeReceiver
    · exact hc.freeReceiver
  · exact hc

theorem endHomeGapNow (h : p.Parked) : p.endHomeGapNow.Parked := by
  unfold Part.endHomeGapNow
  split
  · exact (releaseReceiver (p := { p.stopRun with sched.gap := none }) (h.congr (by simp) (by simp)) .scheduler).congr
      rfl rfl
  · exact h

end Part.Parked

/-! ### The radio in NONE (R132) -/

/-- The affiliation controller of a radio gone to NONE. -/
theorem Part.goNone_controller (cause : NoServiceCause) (p : Part) :
    (p.goNone cause).aff =
      { p.aff with
        serving := none, slot := none, sense := none, machine := .none, ctx := none, hoTimer := none,
        registerDue := false } := by
  simp [Part.goNone]

/-- The engine forgets its candidate and the release it owed. -/
theorem Part.goNone_marks (cause : NoServiceCause) (p : Part) :
    (p.goNone cause).engine.cand = none ∧ (p.goNone cause).engine.releaseOwed = false := by
  simp [Part.goNone]

/-- Ending a HOME gap at once is nothing to the supervision unit (R54). -/
@[simp] theorem Part.endHomeGapNow_sup (p : Part) : p.endHomeGapNow.sup = p.sup := by
  unfold Part.endHomeGapNow Part.skipGaps
  split <;> simp

/-- Supervision is suspended with what it has (R111). -/
theorem Part.goNone_sup (cause : NoServiceCause) (p : Part) :
    (p.goNone cause).sup = { p.sup with active := false, timer := none } := by
  simp [Part.goNone, Part.suspend]

/-- The receiver is PARKED, whatever waited for it (R28, R34). -/
theorem Part.goNone_parked (cause : NoServiceCause) (p : Part) : (p.goNone cause).Parked := by
  let cleared : Part := { ({ p with aff.serving := none } : Part).makeOrdinary p.aff.serving with
    aff.slot := none, aff.sense := none, aff.machine := .none, aff.hoTimer := none, aff.registerDue := false
    engine.cand := none, engine.releaseOwed := false }
  have hrecomputed : cleared.recomputePosition.Parked :=
    Part.Parked.of_recomputePosition (by simp [cleared])
  have hsuspended : cleared.recomputePosition.suspend.Parked := hrecomputed.congr rfl rfl
  have hreleased := Part.Parked.releaseReceiver
    (p := { cleared.recomputePosition.suspend.endHomeGapNow with aff.ctx := none })
    (hsuspended.endHomeGapNow.congr rfl rfl) .affiliation
  exact hreleased.congr (by simp [Part.goNone, cleared]) (by simp [Part.goNone, cleared])

theorem Part.finish_txinh (p : Part) : p.finish.lines.txinh = !p.aff.machine.atRest := by
  have h : p.finish.outputsDriven = true := Part.driveOutputs_driven _
  simp only [Part.outputsDriven, Part.finish_blocks, Bool.and_eq_true, beq_iff_eq] at h
  exact h.2

/-- Away from HOME a step ends with MUTE asserted (R39). -/
theorem Part.Parked.finish_mute {p : Part} (h : p.Parked) : p.finish.lines.mute = true := by
  simp [Part.finish_mute, h.parked]

/-! ### The third target of an event -/

/-- With two targets tried before, the failed one is the event's last (R94, R95). -/
theorem Part.selectAgain_third {ctx : Context} (h : 2 ≤ ctx.tried.length) (p : Part) :
    p.selectAgain ctx =
      ({ p with aff.ctx := some { ctx with tried := ctx.tried ++ [ctx.target] } } : Part).endEvent ctx := by
  have hfull : decide ((ctx.tried ++ [ctx.target]).length < 3) = false := by
    rw [List.length_append, List.length_singleton]
    exact decide_eq_false (by omega)
  simp only [Part.selectAgain, hfull, Bool.and_false, Bool.false_eq_true, if_false]

/-- A third failure without return takes the radio to NONE (R129, R132): the part it leaves so has the parameters and,
but for what the failure clears and the tried list, the controller. -/
theorem Part.failHandover_third {ctx : Context} (hr : ctx.canReturn = false) (h : 2 ≤ ctx.tried.length)
    (reason : FailReason) (refuse : Option RefuseReason) (retry : Nat) (p : Part) :
    ∃ (q : Part) (cause : NoServiceCause), p.failHandover ctx reason refuse retry = q.goNone cause ∧
      q.params = p.params ∧
      q.aff = { p.aff with
        hoTimer := none, registerDue := false, ctx := some { ctx with tried := ctx.tried ++ [ctx.target] } } := by
  let noted : Part := ({ p with aff.hoTimer := none, aff.registerDue := false } : Part).queueNotice
    (.handoverFailed ctx.target ctx.cause reason refuse)
  let failed : Part := noted.updateRec ctx.target (SiteRecord.failTarget reason noted.params.failBar retry)
  have hfailed : p.failHandover ctx reason refuse retry = failed.selectAgain ctx := by
    simp only [Part.failHandover, hr, Bool.false_eq_true, if_false]
    rfl
  exact ⟨_, _, hfailed.trans (Part.selectAgain_third h failed), by simp [failed, noted], by simp [failed, noted]⟩

/-- The beacon wait of a handover runs out (R126). -/
theorem exec_beaconWaitExpiry {s : State} {ctx : Context} (hctx : s.part.aff.ctx = some ctx)
    (ht : s.part.aff.hoTimer.map HoTimer.kind = some .beaconWait) :
    exec .beaconWaitExpiry s = .next (s.withPart (s.part.failHandover ctx .noBeacon none 0).finish) := by
  show execBeaconWaitExpiry s = _
  simp only [execBeaconWaitExpiry, Aff.timerIs, ht, beq_self_eq_true, if_true, Part.beaconWaitExpiry, hctx]

/-- Settles O43: the failure is the event's third, so `Part.goNone` follows it. -/
theorem anEventEndsAfterThreeTargets : Obligations.AnEventEndsAfterThreeTargets := by
  unfold Obligations.AnEventEndsAfterThreeTargets
  intro s ctx _ hctx hr ht htried
  obtain ⟨q, cause, hfailed, hparams, haff⟩ := s.part.failHandover_third hr htried .noBeacon none 0
  refine ⟨_, exec_beaconWaitExpiry hctx ht, ?_⟩
  have hparked := q.goNone_parked cause
  rw [hfailed]
  simp [q.goNone_controller, q.goNone_sup, q.goNone_marks, haff, hparams, hparked.parked, hparked.finish_mute,
    Part.finish_txinh, HoState.atRest]

end Sys2Proof.Machine
end

section
/-! SUPPORT. How an interval is judged (R104 to R108) and how LOST is answered (R90 to R93, R98, R125): the statement
O37. -/

namespace Sys2Proof.Machine

/-! ### The judgement of an interval -/

/-- PTT noted excuses the interval (R105). -/
theorem Part.judgeInterval_ptt {p : Part} (site : Nat) (h : p.sup.pttNoted = true) : p.judgeInterval site = p := by
  simp only [Part.judgeInterval, h, if_true]

/-- The first gap noted uses the excuse (R105). -/
theorem Part.judgeInterval_excused {p : Part} (site : Nat) (hp : p.sup.pttNoted = false) (hg : p.sup.gapNoted = true)
    (he : p.sup.excuse = false) : p.judgeInterval site = { p with sup.excuse := true } := by
  simp [Part.judgeInterval, hp, hg, he]

/-- No PTT, and no gap or the excuse used: the interval counts (R105). -/
theorem Part.judgeInterval_counts {p : Part} (site : Nat) (hp : p.sup.pttNoted = false)
    (hg : p.sup.gapNoted = false ∨ p.sup.excuse = true) :
    p.judgeInterval site = ({ p with sup.excuse := false } : Part).countInterval site := by
  rcases hg with h | h <;> simp [Part.judgeInterval, hp, h]

/-- A counted interval in HEALTHY with more to come (R106). -/
theorem Part.countInterval_healthy {p : Part} (site : Nat) (hs : p.sup.state = .healthy) (hf : 2 ≤ p.sup.fine) :
    p.countInterval site = { p with sup.fine := p.sup.fine - 1 } := by
  have hleft : p.sup.fine - 1 ≠ 0 := by omega
  simp only [Part.countInterval, hs, hleft, if_false]

/-- The last counted interval of HEALTHY (R106). -/
theorem Part.countInterval_fades {p : Part} (site : Nat) (hs : p.sup.state = .healthy) (hf : p.sup.fine = 1) :
    p.countInterval site =
      ({ p with sup.state := .fading, sup.fine := p.params.fadeCount } : Part).queueNotice
        (.servingState site .fading) := by
  simp only [Part.countInterval, hs, hf, Nat.sub_self, if_true]

/-- A counted interval in FADING under DIRECT (R107). -/
theorem Part.countInterval_direct {p : Part} (site : Nat) (hs : p.sup.state = .fading)
    (hm : p.params.superMode = .direct) : p.countInterval site = p.countCoarse site := by
  simp only [Part.countInterval, hs, hm]

/-- A counted interval in FADING under CHAINED that leaves the coarse counter alone (R107). -/
theorem Part.countInterval_chained {p : Part} (site : Nat) (hs : p.sup.state = .fading)
    (hm : p.params.superMode = .chained) (hf : 2 ≤ p.sup.fine) :
    p.countInterval site = { p with sup.fine := p.sup.fine - 1 } := by
  have hleft : p.sup.fine - 1 ≠ 0 := by omega
  simp only [Part.countInterval, hs, hm, hleft, if_false]

/-- A counted interval in FADING under CHAINED that reaches the coarse counter (R107). -/
theorem Part.countInterval_chainedCoarse {p : Part} (site : Nat) (hs : p.sup.state = .fading)
    (hm : p.params.superMode = .chained) (hf : p.sup.fine = 1) :
    p.countInterval site = ({ p with sup.fine := p.params.fadeCount } : Part).countCoarse site := by
  simp only [Part.countInterval, hs, hm, hf, Nat.sub_self, if_true]

/-- The coarse counter with more to come (R108). -/
theorem Part.countCoarse_more {p : Part} (site : Nat) (hc : 2 ≤ p.sup.coarse) :
    p.countCoarse site = { p with sup.coarse := p.sup.coarse - 1 } := by
  have hleft : p.sup.coarse - 1 ≠ 0 := by omega
  simp only [Part.countCoarse, hleft, if_false]

/-- The coarse counter that comes to 0 (R108). -/
theorem Part.countCoarse_loses {p : Part} (site : Nat) (hc : p.sup.coarse = 1) :
    p.countCoarse site =
      ({ p with sup.coarse := 0, sup.state := .lost, sup.timer := none } : Part).queueNotice
        (.servingState site .lost) := by
  simp only [Part.countCoarse, hc, Nat.sub_self, if_true]

/-! ### The interval timer started again -/

/-- The interval timer at its full period with the marks set afresh (R102, R104). -/
def Part.intervalAgain (k : Nat) (p : Part) : Part :=
  { p with sup.timer := some (250 * 2 ^ k), sup.pttNoted := p.active .ptt, sup.gapNoted := p.homeGap }

theorem Part.startInterval_eq {p : Part} {k : Nat} (h : p.sup.cls = some k) : p.startInterval = p.intervalAgain k := by
  have hcls : p.sup.cls.getD 0 = k := by rw [h, Option.getD_some]
  simp only [Part.startInterval, hcls]
  rfl

theorem Part.intervalAgain_queueNotice (k : Nat) (n : Notice) (p : Part) :
    (p.queueNotice n).intervalAgain k = (p.intervalAgain k).queueNotice n := by
  unfold Part.queueNotice Part.intervalAgain
  dsimp only
  split_ifs <;> rfl

/-- An interval whose judgement is not LOST starts the timer again (R102). -/
theorem exec_intervalExpiry_again {s : State} {site period k : Nat} {q : Part} (ht : s.part.sup.timer = some period)
    (hsite : s.part.aff.serving = some site) (hq : s.part.judgeInterval site = q) (hk : q.sup.cls = some k)
    (hl : q.sup.state ≠ .lost) : exec .intervalExpiry s = .next (s.withPart (q.intervalAgain k).finish) := by
  show execIntervalExpiry s = _
  simp only [execIntervalExpiry, ht, Option.isSome_some, if_true, Part.intervalExpiry, hsite, Option.getD_some, hq, hl,
    if_false, Part.startInterval_eq hk]

/-- An interval that brings LOST has it reported to the engine (R108). -/
theorem exec_intervalExpiry_lost {s : State} {site period : Nat} {q : Part} (ht : s.part.sup.timer = some period)
    (hsite : s.part.aff.serving = some site) (hq : s.part.judgeInterval site = q) (hl : q.sup.state = .lost) :
    exec .intervalExpiry s = .next (s.withPart q.reportLost.finish) := by
  show execIntervalExpiry s = _
  simp only [execIntervalExpiry, ht, Option.isSome_some, if_true, Part.intervalExpiry, hsite, Option.getD_some, hq, hl]

/-- A judgement that leaves its mark on the supervision unit alone. -/
theorem exec_intervalExpiry_marks {s : State} {site period k : Nat} {x : Sup} (hs : s.part.settledOutside = true)
    (ht : s.part.sup.timer = some period) (hsite : s.part.aff.serving = some site)
    (hq : s.part.judgeInterval site = { s.part with sup := x }) (hk : x.cls = some k) (hl : x.state ≠ .lost) :
    exec .intervalExpiry s = .next (s.withPart (({ s.part with sup := x } : Part).intervalAgain k)) := by
  rw [exec_intervalExpiry_again ht hsite hq hk hl, Part.finish_of_settled (by exact hs)]

/-! ### The answer to LOST -/

/-- The engine does not answer LOST in FIXED, nor while it makes no rounds (R90, R92). -/
theorem Part.reportLost_unanswered {p : Part}
    (h : p.params.mode = .fixed ∨ (p.engine.state ≠ .running ∧ p.engine.stepFlag = false)) : p.reportLost = p := by
  rcases h with h | ⟨hrun, hstep⟩
  · simp [Part.reportLost, h]
  · simp [Part.reportLost, Part.raiseLoss, Engine.working, hrun, hstep]

/-- It answers LOST at once in AUTO, RUNNING and REGISTERED (R92). -/
theorem Part.reportLost_answered {p : Part} (hm : p.params.mode = .auto) (hrun : p.engine.state = .running)
    (hreg : p.aff.machine = .registered) (hctx : p.aff.ctx = none) : p.reportLost = p.selectForLoss := by
  simp [Part.reportLost, Part.raiseLoss, Engine.working, hm, hrun, hreg, hctx]

/-- Loss selection with nothing to choose (R93, R132). -/
theorem Part.selectForLoss_none {p : Part} (h : p.lossChoice [] = none) (hs : p.aff.signingOff = false) :
    p.selectForLoss = ({ p with engine.releaseOwed := false } : Part).goNone .noTarget := by
  simp [Part.selectForLoss, h, hs]

/-- Loss selection with a choice that no watch holds (R93, R98). -/
theorem Part.selectForLoss_begins {p : Part} {i : Nat} {r : SiteRecord} (h : p.lossChoice [] = some (i, r))
    (hw : p.engine.holdingSlot r.site = none) :
    p.selectForLoss =
      ({ p with engine.cand := none, engine.releaseOwed := false } : Part).beginHandover r.site .loss true := by
  simp only [Part.selectForLoss, h]
  rw [Part.selectCheck_passes (by decide) (by exact hw)]

/-- Loss selection with a choice that a watch holds (R98). -/
theorem Part.selectForLoss_held {p : Part} {i slot : Nat} {r : SiteRecord} (h : p.lossChoice [] = some (i, r))
    (hw : p.engine.holdingSlot r.site = some slot) :
    p.selectForLoss = ({ p with engine.cand := none } : Part).freezeWatch slot := by
  simp only [Part.selectForLoss, h]
  rw [Part.selectCheck_held (by decide) (by exact hw)]

/-- What loss selection reads (R93). -/
theorem Part.lossChoice_congr {p q : Part} (hp : q.params = p.params) (ht : q.table = p.table) (ha : q.aff = p.aff)
    (tried : List Nat) : q.lossChoice tried = p.lossChoice tried := by
  simp only [Part.lossChoice, Part.lossFit, Part.coChannel, Part.servingChannel, Part.record, Part.find, Part.occupied,
    hp, ht, ha]

theorem Part.record_congr {p q : Part} (ht : q.table = p.table) (site : Nat) : q.record site = p.record site := by
  simp only [Part.record, Part.find, Part.occupied, ht]

/-- The controller and the supervision unit of a handover gone to HO_TUNE (R111, R125 step 4). -/
theorem Part.goTune_blocks (ctx : Context) (p : Part) :
    (p.goTune ctx).aff = { p.aff with machine := .hoTune, ctx := some { ctx with waiting := false } } ∧
      (p.goTune ctx).sup = { p.sup with active := false, timer := none } := by
  unfold Part.goTune
  dsimp only
  split <;> simp [Part.suspend]

/-- Loss selection whose choice gets its handover, tuned to at once: no watch holds it, no gap is to end, and the
receiver is free (R33, R93, R125). -/
theorem Part.selectForLoss_tunes {p : Part} {i : Nat} {r : SiteRecord} (h : p.lossChoice [] = some (i, r))
    (hw : p.engine.holdingSlot r.site = none) (hctx : p.aff.ctx = none) (hs : p.aff.signingOff = false)
    (hg : p.homeGap = false) (hh : p.tuning.holder = none) (hserving : p.aff.serving.isSome = true)
    (hr : p.record r.site = some r) :
    p.selectForLoss.aff =
        { p.aff with
          machine := .hoTune
          ctx := some
            { target := r.site, cause := .loss, oldServing := p.aff.serving, canReturn := false, attempts := 0,
              cls := none, tried := [], waiting := false, inStep := p.engine.stepFlag } } ∧
      p.selectForLoss.sup = { p.sup with active := false, timer := none } ∧
      p.selectForLoss.engine = { p.engine with cand := none, releaseOwed := false } ∧
      p.selectForLoss.tuning.op = some (freshOp p.params r.channel .away .affiliation) ∧
      p.selectForLoss.table = p.table := by
  let q : Part := { p with engine.cand := none, engine.releaseOwed := false }
  have hbegun : p.selectForLoss = q.beginHandover r.site .loss true := Part.selectForLoss_begins h hw
  obtain ⟨-, hop, -⟩ := Part.beginHandover_tunes (q := q) (target := r.site) (cause := .loss) (ofRound := true) hctx hs
    hg hr hh hserving
  have hengine := Part.beginHandover_engine r.site .loss true (p := q) rfl
  have hfree := Part.beginHandover_free (p := q) r.site .loss true hctx hs hg
  dsimp only at hfree
  rw [hbegun]
  refine ⟨?_, ?_, hengine, hop, Part.beginHandover_table _ _ _ _⟩
  · rw [hfree, (Part.goTune_blocks _ _).1]
    simp [q, Cause.canReturn]
  · rw [hfree, (Part.goTune_blocks _ _).2]

/-- Loss selection with nothing to choose, at the end of its step (R93, R111, R132). -/
theorem Part.selectForLoss_leaves {p : Part} (h : p.lossChoice [] = none) (hs : p.aff.signingOff = false) :
    let f := p.selectForLoss.finish
    f.aff.serving = none ∧ f.aff.machine = .none ∧ f.aff.ctx = none ∧
      f.sup = { p.sup with active := false, timer := none } ∧ f.engine.cand = none ∧ f.engine.releaseOwed = false ∧
      f.tuning.position = .parked ∧ f.lines.mute = true := by
  have hparked := Part.goNone_parked .noTarget { p with engine.releaseOwed := false }
  rw [Part.selectForLoss_none h hs]
  simp [Part.goNone_controller, Part.goNone_sup, Part.goNone_marks, hparked.parked, hparked.finish_mute]

/-- Loss selection whose choice a watch holds, at the end of its step (R98, R155). -/
theorem Part.selectForLoss_freezes {p : Part} {i slot : Nat} {r : SiteRecord} (h : p.lossChoice [] = some (i, r))
    (hw : p.engine.holdingSlot r.site = some slot) (hrun : p.engine.state = .running) :
    let f := p.selectForLoss.finish
    f.engine.state = .frozen (.watch slot) ∧ f.engine.roundTimer = none ∧ f.aff = p.aff ∧ f.sup = p.sup ∧
      f.tuning = p.tuning ∧ f.table = p.table := by
  let q : Part := { p with engine.cand := none }
  obtain ⟨hfrozen, hstep, htimer⟩ := Part.freezeWatch_engine (p := q) slot (by simp [q, hrun])
  have hengine := (q.freezeWatch slot).finish_ended.stepFlag (.inr (.inr hstep))
  rw [Part.selectForLoss_held h hw]
  exact ⟨by rw [hengine]; exact hfrozen, by rw [hengine]; exact htimer, by simp, by simp, by simp, by simp⟩

/-- The part in which LOST has come, with the supervision unit as given and SERVING_STATE queued (R108). -/
def Part.lostWith (site : Nat) (x : Sup) (p : Part) : Part :=
  ({ p with sup := x } : Part).queueNotice (.servingState site .lost)

theorem Part.lostWith_blocks (site : Nat) (x : Sup) (p : Part) :
    (p.lostWith site x).params = p.params ∧ (p.lostWith site x).table = p.table ∧
      (p.lostWith site x).tuning = p.tuning ∧ (p.lostWith site x).sched = p.sched ∧
      (p.lostWith site x).engine = p.engine ∧ (p.lostWith site x).sup = x ∧ (p.lostWith site x).aff = p.aff := by
  simp [Part.lostWith]

/-- Telling of LOST leaves the end of the step to the transmitter (R185). -/
theorem Part.lostWith_finish {p : Part} (site : Nat) (x : Sup) (h : p.settledOutside = true) :
    (p.lostWith site x).finish = (p.lostWith site x).startSending :=
  Part.finish_of_live (Part.live_of_queueNotice (by exact Part.live_of_settled h))
    (Part.driven_of_queueNotice (by exact Part.driven_of_settled h))

/-- The supervision unit as LOST comes, with its fine counter (R107, R108). -/
def Sup.lost (fine : Nat) (x : Sup) : Sup :=
  { x with excuse := false, coarse := 0, fine := fine, state := .lost, timer := none }

/-- The last counted interval of FADING, by either use of the fine counter (R107, R108). -/
theorem Part.judgeInterval_loses {p : Part} {fine : Nat} (site : Nat) (hp : p.sup.pttNoted = false)
    (hg : p.sup.gapNoted = false ∨ p.sup.excuse = true) (hs : p.sup.state = .fading) (hc : p.sup.coarse = 1)
    (hm : (p.params.superMode = .direct ∧ fine = p.sup.fine) ∨
      (p.params.superMode = .chained ∧ p.sup.fine = 1 ∧ fine = p.params.fadeCount)) :
    p.judgeInterval site = p.lostWith site (p.sup.lost fine) := by
  rw [Part.judgeInterval_counts site hp hg]
  rcases hm with ⟨hm, rfl⟩ | ⟨hm, hf, rfl⟩
  · rw [Part.countInterval_direct site (by exact hs) (by exact hm), Part.countCoarse_loses site (by exact hc)]
    rfl
  · rw [Part.countInterval_chainedCoarse site (by exact hs) (by exact hm) (by exact hf),
      Part.countCoarse_loses site (by exact hc)]
    rfl

/-- Settles O37: each judgement by its case of R105 to R108, and the answer to LOST by what loss selection comes to. -/
theorem intervalsAreJudged : Obligations.IntervalsAreJudged := by
  unfold Obligations.IntervalsAreJudged
  intro s site k period hs ht hsite hk
  refine ⟨fun hptt hlost => ?_, fun hptt hgap hexcuse hlost => ?_, fun hptt hgap => ?_⟩
  · exact exec_intervalExpiry_marks hs ht hsite (Part.judgeInterval_ptt site hptt) hk hlost
  · exact exec_intervalExpiry_marks hs ht hsite (Part.judgeInterval_excused site hptt hgap hexcuse) hk hlost
  have hcounts := Part.judgeInterval_counts site hptt hgap
  refine ⟨fun hstate hfine => ?_, fun hstate hfine => ?_, fun hstate hmode hcoarse => ?_, fun hstate hmode hfine => ?_,
    fun hstate hmode hfine hcoarse => ?_, fun fine hstate hcoarse hmode => ?_⟩
  · exact exec_intervalExpiry_marks hs ht hsite (hcounts.trans (Part.countInterval_healthy site hstate hfine)) hk
      (by simp [hstate])
  · have hfades := hcounts.trans (Part.countInterval_fades site hstate hfine)
    rw [exec_intervalExpiry_again ht hsite hfades (by simpa using hk) (by simp), Part.intervalAgain_queueNotice,
      Part.finish_of_live (Part.live_of_queueNotice (by exact Part.live_of_settled hs))
        (Part.driven_of_queueNotice (by exact Part.driven_of_settled hs))]
    rfl
  · exact exec_intervalExpiry_marks hs ht hsite
      ((hcounts.trans (Part.countInterval_direct site hstate hmode)).trans (Part.countCoarse_more site hcoarse)) hk
      (by simp [hstate])
  · exact exec_intervalExpiry_marks hs ht hsite (hcounts.trans (Part.countInterval_chained site hstate hmode hfine)) hk
      (by simp [hstate])
  · exact exec_intervalExpiry_marks hs ht hsite
      ((hcounts.trans (Part.countInterval_chainedCoarse site hstate hmode hfine)).trans
        (Part.countCoarse_more site hcoarse)) hk (by simp [hstate])
  · have hlost := exec_intervalExpiry_lost ht hsite
      (Part.judgeInterval_loses site hptt hgap hstate hcoarse hmode) (by simp [Part.lostWith_blocks, Sup.lost])
    have hsettles := Part.lostWith_finish site (s.part.sup.lost fine) hs
    obtain ⟨hparams, htable, htuning, hsched, hengine, hsup, haff⟩ :=
      Part.lostWith_blocks site (s.part.sup.lost fine) s.part
    refine ⟨fun hfixed => ?_, fun hauto hrun hreg hctx hsign => ?_⟩
    · rw [hlost, Part.reportLost_unanswered (by rwa [hparams, hengine]), hsettles]
      rfl
    generalize s.part.lostWith site (s.part.sup.lost fine) = q at *
    rw [Part.reportLost_answered (by rw [hparams, hauto]) (by rw [hengine, hrun]) (by rw [haff, hreg])
      (by rw [haff, hctx])] at hlost
    have hchosen := Part.lossChoice_congr hparams htable haff []
    refine ⟨fun hchoice => ⟨_, hlost, ?_⟩, fun i r hchoice hrec =>
      ⟨fun hslot hnogap hholder => ⟨_, hlost, ?_⟩, fun slot hslot => ⟨_, hlost, ?_⟩⟩⟩
    · have hleft := Part.selectForLoss_leaves (hchosen.trans hchoice) (by rw [haff, hsign])
      rwa [hsup] at hleft
    · obtain ⟨htuned, hsuspended, hmarks, hop, hkept⟩ := Part.selectForLoss_tunes (hchosen.trans hchoice)
        (by rw [hengine, hslot]) (by rw [haff, hctx]) (by rw [haff, hsign])
        ((Part.homeGap_of_gap (by rw [hsched])).trans hnogap) (by rw [htuning, hholder]) (by rw [haff, hsite]; rfl)
        ((Part.record_congr htable r.site).trans hrec)
      rw [haff, hsite, hengine] at htuned
      rw [hsup] at hsuspended
      rw [hparams] at hop
      simp [htuned, hsuspended, hmarks, hop, hkept, htable, Sup.lost, ← hsite]
    · have hfrozen := Part.selectForLoss_freezes (hchosen.trans hchoice) (by rw [hengine, hslot])
        (by rw [hengine, hrun])
      rwa [haff, hsup, htuning, htable] at hfrozen

end Sys2Proof.Machine
end

section
/-! SUPPORT. The settings that only a host command of its own changes (R118, R162, R171, R187, R190): what keeps them all,
and which of them each command may change. The statement O60. -/

namespace Sys2Proof.Machine

/-! ### Parts with the same settings -/

theorem Part.SameSettings.refl (p : Part) : p.SameSettings p :=
  ⟨rfl, rfl, rfl, rfl, rfl, rfl, fun _ => ⟨rfl, rfl⟩⟩

theorem Part.SameSettings.trans {p q r : Part} (hpq : p.SameSettings q) (hqr : q.SameSettings r) : p.SameSettings r where
  params := hqr.params.trans hpq.params
  identity := hqr.identity.trans hpq.identity
  enabled := hqr.enabled.trans hpq.enabled
  watch0 := hqr.watch0.trans hpq.watch0
  watch1 := hqr.watch1.trans hpq.watch1
  battMode := hqr.battMode.trans hpq.battMode
  inputs i := ⟨(hqr.inputs i).1.trans (hpq.inputs i).1, (hqr.inputs i).2.trans (hpq.inputs i).2⟩

/-- Parts whose input lines are the same, levels and all. -/
theorem Part.sameSettings_of_lines {p q : Part}
    (h : q.params = p.params ∧ q.aff.identity = p.aff.identity ∧ q.link.enabled = p.link.enabled ∧
      q.engine.watch0 = p.engine.watch0 ∧ q.engine.watch1 = p.engine.watch1 ∧ q.lines.battMode = p.lines.battMode ∧
      q.lines.ptt = p.lines.ptt ∧ q.lines.call = p.lines.call ∧ q.lines.emerg = p.lines.emerg ∧
      q.lines.batt = p.lines.batt) : p.SameSettings q := by
  obtain ⟨hparams, hidentity, henabled, hwatch0, hwatch1, hmode, hptt, hcall, hemerg, hbatt⟩ := h
  refine ⟨hparams, hidentity, henabled, hwatch0, hwatch1, hmode, fun i => ?_⟩
  cases i <;> simp [Lines.get, hptt, hcall, hemerg, hbatt]

/-- What the operations of the blocks keep holds the settings. -/
theorem Part.sameSettings_of_keeps {p q : Part} (h : p.Keeps q) : p.SameSettings q :=
  Part.sameSettings_of_lines (by simp [h])

/-- An input that takes a level, a reference or a mark keeps its configuration (R171). -/
theorem Part.setInput_sameSettings {p : Part} {i : Input} {x : InputLine}
    (hpolarity : x.polarity = (p.lines.get i).polarity) (hreport : x.report = (p.lines.get i).report) :
    p.SameSettings (p.setInput i x) where
  params := rfl
  identity := rfl
  enabled := rfl
  watch0 := rfl
  watch1 := rfl
  battMode := Lines.set_battMode _ _ _
  inputs j := by
    by_cases hj : j = i
    · subst hj
      simp [hpolarity, hreport]
    · simp [Lines.get_set_other _ _ _ _ hj]

theorem Part.finish_sameSettings (p : Part) : p.SameSettings p.finish := by
  have hsent (q : Part) : q.startSending.link.enabled = q.link.enabled := by
    unfold Part.startSending; (repeat' split) <;> simp
  exact Part.sameSettings_of_lines (by simp [Part.finish, hsent])

theorem Part.placeReply_sameSettings (r : Reply) (p : Part) : p.SameSettings (p.placeReply r) :=
  Part.SameSettings.trans (q := { p with link.buffer := none, link.reply := some r })
    (Part.sameSettings_of_lines (by simp)) (Part.finish_sameSettings _)

/-! ### The inputs -/

theorem Part.judgeMark_sameSettings (i : Input) (p : Part) : p.SameSettings (p.judgeMark i) := by
  have hset : p.SameSettings (p.setInput i { p.lines.get i with mark := true }) := Part.setInput_sameSettings rfl rfl
  unfold Part.judgeMark
  dsimp only
  split
  · split
    · exact hset.trans (Part.sameSettings_of_keeps (Part.queueNotice_keeps _ _))
    · exact hset
  · exact .refl p

theorem Part.takeLevel_sameSettings (i : Input) (p : Part) : p.SameSettings (p.takeLevel i) := by
  have hset (level reference : Option Bool) :
      p.SameSettings (p.setInput i
        { p.lines.get i with debounced := level, timer := none, reference := reference }) :=
    Part.setInput_sameSettings rfl rfl
  unfold Part.takeLevel
  dsimp only
  split
  · exact ((hset _ _).trans (Part.judgeMark_sameSettings i _)).trans
      (Part.sameSettings_of_keeps (Part.activeChange_keeps i _ _))
  split
  · exact (hset _ _).trans (Part.sameSettings_of_keeps (Part.judgeDigital_keeps _))
  · exact (hset _ _).trans (Part.sameSettings_of_keeps (Part.activeChange_keeps i _ _))

theorem Part.startDebounce_sameSettings (i : Input) (p : Part) : p.SameSettings (p.startDebounce i) := by
  unfold Part.startDebounce
  split
  · exact Part.takeLevel_sameSettings i p
  split
  · exact .refl p
  · exact Part.setInput_sameSettings rfl rfl

theorem Part.edge_sameSettings (i : Input) (level : Bool) (p : Part) : p.SameSettings (p.edge i level) := by
  have hraw : p.SameSettings (p.setInput i { p.lines.get i with raw := level }) := Part.setInput_sameSettings rfl rfl
  unfold Part.edge
  dsimp only
  split
  · exact hraw
  split
  · exact hraw.trans (Part.setInput_sameSettings (by simp) (by simp))
  · exact hraw.trans (Part.startDebounce_sameSettings i _)

theorem Part.rereadLines_sameSettings (p : Part) : p.SameSettings p.rereadLines :=
  ⟨rfl, rfl, rfl, rfl, rfl, rfl, fun i => by cases i <;> exact ⟨rfl, rfl⟩⟩

theorem Part.toDigital_sameSettings (p : Part) : p.SameSettings p.toDigital := by
  unfold Part.toDigital
  dsimp only
  refine Part.SameSettings.trans ?_ (Part.startDebounce_sameSettings .batt _)
  exact Part.sameSettings_of_lines ⟨rfl, rfl, rfl, rfl, rfl, rfl, rfl, rfl, rfl, rfl⟩

/-! ### The settings a command may change -/

/-- A command other than a reset has changed no settings but its own. -/
structure Part.SettingsBy (c : Instr) (p q : Part) : Prop where
  params : (∀ payload, c ≠ .paramSet payload) → q.params = p.params
  identity : (∀ payload, c ≠ .identity payload) → q.aff.identity = p.aff.identity
  enabled : (∀ payload, c ≠ .notices payload) → q.link.enabled = p.link.enabled
  watches : (∀ payload, c ≠ .watchSet payload) → (∀ payload, c ≠ .watchClear payload) →
    q.engine.watch0 = p.engine.watch0 ∧ q.engine.watch1 = p.engine.watch1
  inputs : (∀ payload, c ≠ .linesSet payload) →
    q.lines.battMode = p.lines.battMode ∧
      ∀ i, (q.lines.get i).polarity = (p.lines.get i).polarity ∧ (q.lines.get i).report = (p.lines.get i).report

theorem Part.SameSettings.settingsBy {p q : Part} (h : p.SameSettings q) (c : Instr) : p.SettingsBy c q where
  params _ := h.params
  identity _ := h.identity
  enabled _ := h.enabled
  watches _ _ := ⟨h.watch0, h.watch1⟩
  inputs _ := ⟨h.battMode, h.inputs⟩

theorem Part.settingsBy_self (c : Instr) (p : Part) : p.SettingsBy c p := (Part.SameSettings.refl p).settingsBy c

theorem Part.SettingsBy.trans {c : Instr} {p q r : Part} (h : p.SettingsBy c q) (hqr : q.SameSettings r) :
    p.SettingsBy c r where
  params hc := hqr.params.trans (h.params hc)
  identity hc := hqr.identity.trans (h.identity hc)
  enabled hc := hqr.enabled.trans (h.enabled hc)
  watches hs hc := ⟨hqr.watch0.trans (h.watches hs hc).1, hqr.watch1.trans (h.watches hs hc).2⟩
  inputs hc := ⟨hqr.battMode.trans (h.inputs hc).1, fun i =>
    ⟨(hqr.inputs i).1.trans ((h.inputs hc).2 i).1, (hqr.inputs i).2.trans ((h.inputs hc).2 i).2⟩⟩

theorem Part.settingsBy_paramSet (payload : List Byte) (ps : Params) (p : Part) :
    p.SettingsBy (.paramSet payload) { p with params := ps } :=
  ⟨fun h => absurd rfl (h payload), fun _ => rfl, fun _ => rfl, fun _ _ => ⟨rfl, rfl⟩, fun _ => ⟨rfl, fun _ => ⟨rfl, rfl⟩⟩⟩

theorem Part.settingsBy_identity (payload : List Byte) (identity : Option Identity) (p : Part) :
    p.SettingsBy (.identity payload) { p with aff.identity := identity } :=
  ⟨fun _ => rfl, fun h => absurd rfl (h payload), fun _ => rfl, fun _ _ => ⟨rfl, rfl⟩, fun _ => ⟨rfl, fun _ => ⟨rfl, rfl⟩⟩⟩

theorem Part.settingsBy_notices (payload : List Byte) (enabled : BitVec 16) (p : Part) :
    p.SettingsBy (.notices payload) { p with link.enabled := enabled } :=
  ⟨fun _ => rfl, fun _ => rfl, fun h => absurd rfl (h payload), fun _ _ => ⟨rfl, rfl⟩, fun _ => ⟨rfl, fun _ => ⟨rfl, rfl⟩⟩⟩

theorem Part.settingsBy_linesSet (payload : List Byte) (lines : Lines) (p : Part) :
    p.SettingsBy (.linesSet payload) { p with lines := lines } :=
  ⟨fun _ => rfl, fun _ => rfl, fun _ => rfl, fun _ _ => ⟨rfl, rfl⟩, fun h => absurd rfl (h payload)⟩

/-- Setting or clearing a watch slot changes that slot alone (R162). -/
theorem Part.setWatch_settingsBy {c : Instr} (payload : List Byte) (hc : c = .watchSet payload ∨ c = .watchClear payload)
    (slot : Nat) (watch : Option Watch) (p : Part) : p.SettingsBy c (p.setWatch slot watch).part := by
  have hwatches {o : Prop} (hset : ∀ payload, c ≠ .watchSet payload) (hclear : ∀ payload, c ≠ .watchClear payload) : o :=
    (hc.elim (hset payload) (hclear payload)).elim
  unfold Part.setWatch
  split
  · exact ⟨fun _ => rfl, fun _ => rfl, fun _ => rfl, hwatches, fun _ => ⟨rfl, fun _ => ⟨rfl, rfl⟩⟩⟩
  · exact ⟨fun _ => rfl, fun _ => rfl, fun _ => rfl, hwatches, fun _ => ⟨rfl, fun _ => ⟨rfl, rfl⟩⟩⟩
  · exact p.settingsBy_self c

/-- A taken LINES SET changes the configuration of the inputs, and no other setting (R171, R175). -/
theorem Part.configureLines_settingsBy (payload : List Byte) (ptt call emerg batt : InputConfig) (mode : BattMode)
    (p : Part) : p.SettingsBy (.linesSet payload) (p.configureLines ptt call emerg batt mode) := by
  have hchange {q : Part} (i : Input) (was : Bool) (h : p.SettingsBy (.linesSet payload) q) :
      p.SettingsBy (.linesSet payload) (q.activeChange i was) :=
    h.trans (Part.sameSettings_of_keeps (Part.activeChange_keeps i was q))
  have hjudge {q : Part} (i : Input) (h : p.SettingsBy (.linesSet payload) q) :
      p.SettingsBy (.linesSet payload) (q.judgeMark i) := h.trans (Part.judgeMark_sameSettings i q)
  have hmarks {q : Part} (h : p.SettingsBy (.linesSet payload) q) :
      p.SettingsBy (.linesSet payload) ((((q.judgeMark .ptt).judgeMark .call).judgeMark .emerg).judgeMark .batt) :=
    hjudge _ (hjudge _ (hjudge _ (hjudge _ h)))
  have hinputs (lines : Lines) (a b c : Bool) :
      p.SettingsBy (.linesSet payload)
        (((({ p with lines := lines } : Part).activeChange .ptt a).activeChange .call b).activeChange .emerg c) :=
    hchange _ _ (hchange _ _ (hchange _ _ (p.settingsBy_linesSet payload lines)))
  unfold Part.configureLines
  dsimp only
  split
  · exact (hmarks (hinputs _ _ _ _)).trans (Part.sameSettings_of_keeps (Part.toAnalog_keeps _))
  split
  · exact (hmarks (hchange _ _ (hinputs _ _ _ _))).trans (Part.toDigital_sameSettings _)
  · exact hmarks (hchange _ _ (hinputs _ _ _ _))

/-! ### The answers of the host commands -/

theorem answerInfo_sameSettings (args : List Byte) (p : Part) : p.SameSettings (answerInfo args p).part := by
  unfold answerInfo; split <;> exact .refl p

theorem answerParamGet_sameSettings (args : List Byte) (p : Part) : p.SameSettings (answerParamGet args p).part := by
  unfold answerParamGet; (repeat' split) <;> exact .refl p

theorem answerSitePut_sameSettings (args : List Byte) (p : Part) : p.SameSettings (answerSitePut args p).part := by
  have hput (r : SiteRecord) (channel : Nat) (bias : Int) : p.Keeps (p.putExisting r channel bias) := by
    unfold Part.putExisting; dsimp only; split <;> simp [Part.Keeps]
  unfold answerSitePut Part.sitePut
  split
  · dsimp only
    split
    · exact .refl p
    split
    · split
      · exact .refl p
      split
      · exact .refl p
      · exact Part.sameSettings_of_keeps (hput _ _ _)
    · split
      · exact .refl p
      · rename_i hroom
        have hkeeps := Part.makeRoom_keeps hroom
        exact Part.sameSettings_of_keeps (by simp [Part.Keeps, hkeeps])
  · exact .refl p

theorem answerSiteDrop_sameSettings (args : List Byte) (p : Part) : p.SameSettings (answerSiteDrop args p).part := by
  unfold answerSiteDrop Part.siteDrop
  (repeat' split) <;> exact Part.sameSettings_of_keeps (by simp [Part.Keeps, Part.dropSite])

theorem answerSiteGet_sameSettings (args : List Byte) (p : Part) : p.SameSettings (answerSiteGet args p).part := by
  have hget (found : Option (Nat × SiteRecord)) : p.SameSettings (p.siteGet found).part :=
    (Part.siteGet_part p found).symm ▸ .refl p
  unfold answerSiteGet
  dsimp only
  (repeat' split) <;> first | exact hget _ | exact .refl p

theorem answerSiteList_sameSettings (args : List Byte) (p : Part) : p.SameSettings (answerSiteList args p).part := by
  unfold answerSiteList; split <;> exact .refl p

theorem answerRun_sameSettings (args : List Byte) (p : Part) : p.SameSettings (answerRun args p).part := by
  unfold answerRun Part.runEngine
  (repeat' split) <;> exact Part.sameSettings_of_keeps (by simp [Part.Keeps])

theorem answerHalt_sameSettings (args : List Byte) (p : Part) : p.SameSettings (answerHalt args p).part := by
  unfold answerHalt Part.haltEngine
  (repeat' split) <;> exact Part.sameSettings_of_keeps (by simp [Part.Keeps])

theorem answerStep_sameSettings (args : List Byte) (p : Part) : p.SameSettings (answerStep args p).part := by
  unfold answerStep Part.stepEngine
  (repeat' split) <;> exact Part.sameSettings_of_keeps (by simp [Part.Keeps, Part.beginStep])

theorem answerContinue_sameSettings (args : List Byte) (p : Part) : p.SameSettings (answerContinue args p).part := by
  unfold answerContinue Part.continueEngine Part.continueFrom
  (repeat' split) <;> exact Part.sameSettings_of_keeps (by simp [Part.Keeps])

theorem answerMove_sameSettings (args : List Byte) (p : Part) : p.SameSettings (answerMove args p).part := by
  unfold answerMove Part.moveTo
  (repeat' split) <;> exact Part.sameSettings_of_keeps (by simp [Part.Keeps])

theorem answerAirIn_sameSettings (args : List Byte) (p : Part) : p.SameSettings (answerAirIn args p).part := by
  unfold answerAirIn
  (repeat' split) <;> exact Part.sameSettings_of_keeps (by simp [Part.Keeps])

theorem answerAirSent_sameSettings (args : List Byte) (p : Part) : p.SameSettings (answerAirSent args p).part := by
  unfold answerAirSent Part.airSent
  (repeat' split) <;> exact Part.sameSettings_of_keeps (by simp [Part.Keeps])

theorem answerLinesRead_sameSettings (args : List Byte) (p : Part) : p.SameSettings (answerLinesRead args p).part := by
  unfold answerLinesRead
  split
  · exact p.rereadLines_sameSettings
  · exact .refl p

theorem answerRequest_sameSettings (args : List Byte) (p : Part) : p.SameSettings (answerRequest args p).part := by
  unfold answerRequest
  (repeat' split) <;> exact Part.sameSettings_of_keeps (by simp [Part.Keeps])

theorem answerSignOff_sameSettings (args : List Byte) (p : Part) : p.SameSettings (answerSignOff args p).part := by
  unfold answerSignOff Part.beginSignOff
  dsimp only
  (repeat' split) <;> exact Part.sameSettings_of_keeps (by simp [Part.Keeps])

theorem answerStatus_sameSettings (args : List Byte) (p : Part) : p.SameSettings (answerStatus args p).part := by
  unfold answerStatus; split <;> exact .refl p

/-- A RESET schedules its reset, which changes no settings before its reply has been sent (R194). -/
theorem answerReset_sameSettings (args : List Byte) (p : Part) : p.SameSettings (answerReset args p).part := by
  unfold answerReset
  (repeat' split) <;> exact Part.sameSettings_of_lines (by simp)

theorem answerParamSet_settingsBy (payload args : List Byte) (p : Part) :
    p.SettingsBy (.paramSet payload) (answerParamSet args p).part := by
  have hstored (q : Param) (v : Int) : p.SettingsBy (.paramSet payload) (p.storeParam q v) := by
    have hset := p.settingsBy_paramSet payload (p.params.set q v)
    unfold Part.storeParam
    dsimp only
    split
    · exact hset.trans (Part.sameSettings_of_keeps (Part.reduceFine_keeps _))
    · exact hset.trans (Part.sameSettings_of_keeps (Part.reduceCoarse_keeps _))
    · exact hset
  unfold answerParamSet
  dsimp only
  (repeat' split) <;> first | exact hstored _ _ | exact p.settingsBy_self _

theorem answerIdentity_settingsBy (payload args : List Byte) (p : Part) :
    p.SettingsBy (.identity payload) (answerIdentity args p).part := by
  unfold answerIdentity
  (repeat' split) <;> exact p.settingsBy_identity payload _

theorem answerNotices_settingsBy (payload args : List Byte) (p : Part) :
    p.SettingsBy (.notices payload) (answerNotices args p).part := by
  unfold answerNotices
  (repeat' split) <;> exact p.settingsBy_notices payload _

theorem answerWatchSet_settingsBy (payload args : List Byte) (p : Part) :
    p.SettingsBy (.watchSet payload) (answerWatchSet args p).part := by
  unfold answerWatchSet
  (repeat' split) <;> first | exact Part.setWatch_settingsBy payload (.inl rfl) _ _ p | exact p.settingsBy_self _

theorem answerWatchClear_settingsBy (payload args : List Byte) (p : Part) :
    p.SettingsBy (.watchClear payload) (answerWatchClear args p).part := by
  unfold answerWatchClear
  split
  · exact Part.setWatch_settingsBy payload (.inr rfl) _ _ p
  · exact p.settingsBy_self _

theorem answerLinesSet_settingsBy (payload args : List Byte) (p : Part) :
    p.SettingsBy (.linesSet payload) (answerLinesSet args p).part := by
  unfold answerLinesSet
  (repeat' split) <;> first | exact p.configureLines_settingsBy payload _ _ _ _ _ | exact p.settingsBy_self _

/-! ### The operations of the events -/

@[simp] theorem Part.affReady_keeps (p : Part) : p.Keeps p.affReady := by
  unfold Part.affReady; split <;> simp [Part.Keeps]

@[simp] theorem Part.affFailed_keeps (p : Part) : p.Keeps p.affFailed := by
  unfold Part.affFailed; split <;> simp [Part.Keeps]

@[simp] theorem Part.handReady_keeps (owner : Owner) (p : Part) : p.Keeps (p.handReady owner) := by
  unfold Part.handReady; split <;> simp [Part.Keeps]

@[simp] theorem Part.handFailed_keeps (owner : Owner) (p : Part) : p.Keeps (p.handFailed owner) := by
  unfold Part.handFailed; split <;> simp [Part.Keeps]

@[simp] theorem Part.opReady_keeps (op : TuneOp) (p : Part) : p.Keeps (p.opReady op) := by
  simp [Part.opReady, Part.Keeps]

@[simp] theorem Part.lockTaken_keeps (op : TuneOp) (p : Part) : p.Keeps (p.lockTaken op) := by
  unfold Part.lockTaken; split <;> simp [Part.Keeps]

@[simp] theorem Part.lockFailed_keeps (op : TuneOp) (p : Part) : p.Keeps (p.lockFailed op) := by
  unfold Part.lockFailed; (repeat' split) <;> simp [Part.Keeps]

@[simp] theorem Part.roundExpiry_keeps (p : Part) : p.Keeps p.roundExpiry := by simp [Part.roundExpiry, Part.Keeps]

@[simp] theorem Part.listenExpiry_keeps (g : Gap) (p : Part) : p.Keeps (p.listenExpiry g) := by
  unfold Part.listenExpiry; split <;> simp [Part.Keeps]

@[simp] theorem Part.batteryDone_keeps (judged : Bool) (code : Byte) (p : Part) :
    p.Keeps (p.batteryDone judged code) := by
  unfold Part.batteryDone; split <;> simp [Part.Keeps]

@[simp] theorem Part.intervalExpiry_keeps (p : Part) : p.Keeps p.intervalExpiry := by
  unfold Part.intervalExpiry; dsimp only; split <;> simp [Part.Keeps]

@[simp] theorem Part.beaconWaitExpiry_keeps (p : Part) : p.Keeps p.beaconWaitExpiry := by
  unfold Part.beaconWaitExpiry; split <;> simp [Part.Keeps]

@[simp] theorem Part.grantWaitExpiry_keeps (p : Part) : p.Keeps p.grantWaitExpiry := by
  unfold Part.grantWaitExpiry; (repeat' split) <;> simp [Part.Keeps]

/-! ### Records, events and steps -/

/-- A record that is discarded, waits or is interpreted changes the settings its answer changes (R182, R183). -/
theorem Part.command_settingsBy {c : Instr} {f : List Byte → Part → Answer} {p : Part}
    (hf : ∀ args, p.SettingsBy c (f args p).part) (kind : Byte) (payload : List Byte) :
    p.SettingsBy c (p.command kind payload f) := by
  have hanswer : p.SettingsBy c (answerCommand kind payload f p).1 := by
    unfold answerCommand
    (repeat' split) <;> first | exact hf _ | exact p.settingsBy_self c
  unfold Part.command Part.interpret
  split
  · exact p.settingsBy_self c
  split
  · exact (Part.sameSettings_of_lines (by simp [Part.keepRecord])).settingsBy c
  · exact hanswer.trans (Part.placeReply_sameSettings _ _)

/-- A refused record changes no settings: what it is refused with is a reply (R183). -/
theorem Part.interpret_sameSettings {item : RxItem} {f : Part → Part × Reply} {p : Part} (hf : (f p).1 = p) :
    p.SameSettings (p.interpret item f) := by
  unfold Part.interpret
  split
  · exact .refl p
  split
  · exact Part.sameSettings_of_lines (by simp [Part.keepRecord])
  · rw [hf]
    exact Part.placeReply_sameSettings _ _

/-- Settings rest on the link's enable set alone. -/
theorem Part.withLink_sameSettings {p : Part} {link : Link} (h : link.enabled = p.link.enabled) :
    p.SameSettings { p with link := link } :=
  Part.sameSettings_of_lines ⟨rfl, rfl, h, rfl, rfl, rfl, rfl, rfl, rfl, rfl⟩

/-- What stands in the receive buffer is left, refused as a framing error, or interpreted as a record of the buffer's
kind and payload by a whole step (R182, R183). -/
theorem Part.interpretDue_cases (p : Part) :
    p.SameSettings p.interpretDue ∨
      ∃ kind payload, p.interpretDue.finish = p.interpretDue ∧
        ∀ s : State, exec (rowOfRecord kind payload) (s.withPart { p with link := { p.link with buffer := none } }) =
          .next (s.withPart p.interpretDue) := by
  unfold Part.interpretDue
  split
  · rename_i item hreply hbuffer
    have hemptied : p.SameSettings { p with link.buffer := none } := Part.withLink_sameSettings rfl
    cases item with
    | error cause => exact .inl (hemptied.trans (Part.interpret_sameSettings rfl))
    | frame kind payload =>
      refine .inr ⟨kind, payload, ?_, fun s => exec_rowOfRecord kind payload _⟩
      simp only [Part.interpret, hreply, Option.isSome_none, Bool.false_eq_true, if_false]
      exact Part.placeReply_finish _ _
  · exact .inl (.refl p)

/-- A framing error is refused, now or when the reply slot is empty (R181, R183 step 1). -/
theorem Part.framingError_interpretDue_sameSettings (cause : FrameCause) (p : Part) :
    p.SameSettings (p.framingError cause).interpretDue := by
  have herror : p.SameSettings (p.framingError cause) := Part.withLink_sameSettings rfl
  refine herror.trans ?_
  unfold Part.interpretDue
  split
  · rename_i item hreply hbuffer
    obtain rfl : RxItem.error cause = item := Option.some.inj hbuffer
    refine Part.SameSettings.trans ?_ (Part.interpret_sameSettings rfl)
    exact Part.withLink_sameSettings rfl
  · exact .refl _

/-- A step of the part that changes no settings but its command's own. -/
def KeepsSettings (c : Instr) (s : State) (o : Host.Outcome State Fault Refusal) : Prop :=
  ∃ t, o = .next t ∧ s.part.SettingsBy c t.part

theorem keepsSettings_of_same {c : Instr} {s t : State} (h : s.part.SameSettings t.part) :
    KeepsSettings c s (.next t) := ⟨t, rfl, h.settingsBy c⟩

theorem keepsSettings_self (c : Instr) (s : State) : KeepsSettings c s (.next s) := keepsSettings_of_same (.refl _)

theorem keepsSettings_of_keeps {c : Instr} {s : State} {q : Part} (h : s.part.Keeps q) :
    KeepsSettings c s (.next (s.withPart q)) := keepsSettings_of_same (Part.sameSettings_of_keeps h)

/-- An event whose operation keeps the settings keeps them to the end of its step. -/
theorem keepsSettings_finish {c : Instr} {s : State} {q : Part} (h : s.part.SameSettings q) :
    KeepsSettings c s (.next (s.withPart q.finish)) := keepsSettings_of_same (h.trans q.finish_sameSettings)

theorem keepsSettings_command {c : Instr} {s : State} {f : List Byte → Part → Answer}
    (hf : ∀ args, s.part.SettingsBy c (f args s.part).part) (kind : Byte) (payload : List Byte) :
    KeepsSettings c s (.next (s.withPart (s.part.command kind payload f))) :=
  ⟨_, rfl, Part.command_settingsBy hf kind payload⟩

theorem keepsSettings_query {c : Instr} {s : State} {f : List Byte → Part → Answer}
    (hf : ∀ args (p : Part), p.SameSettings (f args p).part) (kind : Byte) (payload : List Byte) :
    KeepsSettings c s (.next (s.withPart (s.part.command kind payload f))) :=
  keepsSettings_command (fun args => (hf args s.part).settingsBy c) kind payload

/-- Each command but the resets and the two events that interpret a record keeps all settings but its own. -/
theorem exec_keepsSettings {c : Instr} (s : State) (hpower : c ≠ .powerOn) (hline : c ≠ .resetLine)
    (hsent : c ≠ .recordSent) (hbyte : ∀ b, c ≠ .lrxByte b) : KeepsSettings c s (exec c s) := by
  cases c with
  | powerOn => exact absurd rfl hpower
  | resetLine => exact absurd rfl hline
  | recordSent => exact absurd rfl hsent
  | lrxByte b => exact absurd rfl (hbyte b)
  | info payload => exact keepsSettings_query answerInfo_sameSettings _ payload
  | paramSet payload => exact keepsSettings_command (fun args => answerParamSet_settingsBy payload args _) _ payload
  | paramGet payload => exact keepsSettings_query answerParamGet_sameSettings _ payload
  | identity payload => exact keepsSettings_command (fun args => answerIdentity_settingsBy payload args _) _ payload
  | sitePut payload => exact keepsSettings_query answerSitePut_sameSettings _ payload
  | siteDrop payload => exact keepsSettings_query answerSiteDrop_sameSettings _ payload
  | siteGet payload => exact keepsSettings_query answerSiteGet_sameSettings _ payload
  | siteList payload => exact keepsSettings_query answerSiteList_sameSettings _ payload
  | run payload => exact keepsSettings_query answerRun_sameSettings _ payload
  | halt payload => exact keepsSettings_query answerHalt_sameSettings _ payload
  | step payload => exact keepsSettings_query answerStep_sameSettings _ payload
  | cont payload => exact keepsSettings_query answerContinue_sameSettings _ payload
  | watchSet payload => exact keepsSettings_command (fun args => answerWatchSet_settingsBy payload args _) _ payload
  | watchClear payload => exact keepsSettings_command (fun args => answerWatchClear_settingsBy payload args _) _ payload
  | move payload => exact keepsSettings_query answerMove_sameSettings _ payload
  | airIn payload => exact keepsSettings_query answerAirIn_sameSettings _ payload
  | airSent payload => exact keepsSettings_query answerAirSent_sameSettings _ payload
  | linesSet payload => exact keepsSettings_command (fun args => answerLinesSet_settingsBy payload args _) _ payload
  | linesRead payload => exact keepsSettings_query answerLinesRead_sameSettings _ payload
  | request payload => exact keepsSettings_query answerRequest_sameSettings _ payload
  | signOff payload => exact keepsSettings_query answerSignOff_sameSettings _ payload
  | status payload => exact keepsSettings_query answerStatus_sameSettings _ payload
  | notices payload => exact keepsSettings_command (fun args => answerNotices_settingsBy payload args _) _ payload
  | reset payload => exact keepsSettings_query answerReset_sameSettings _ payload
  | frameError cause => exact keepsSettings_of_same (Part.interpret_sameSettings rfl)
  | unknown kind payload =>
    show KeepsSettings _ s (execUnknown kind payload s)
    unfold execUnknown
    split
    · exact keepsSettings_self _ s
    · exact keepsSettings_of_same (Part.interpret_sameSettings rfl)
  | linkGapExpiry =>
    show KeepsSettings _ s (execLinkGapExpiry s)
    unfold execLinkGapExpiry
    split
    · exact keepsSettings_of_same (Part.framingError_interpretDue_sameSettings .gap s.part)
    · exact keepsSettings_self _ s
  | inputEdge i level =>
    show KeepsSettings _ s (execInputEdge i level s)
    unfold execInputEdge
    split
    · exact keepsSettings_self _ s
    · exact keepsSettings_finish (Part.edge_sameSettings i level _)
  | debounceExpiry i =>
    show KeepsSettings _ s (execDebounceExpiry i s)
    unfold execDebounceExpiry
    split
    · exact keepsSettings_finish (Part.takeLevel_sameSettings i _)
    · exact keepsSettings_self _ s
  | shiftLatchDone | lockBlankEnd _ | lock | lockWaitExpiry | settleExpiry | roundExpiry | sampleTimerExpiry
  | rssiConversionDone _ | listenExpiry | batteryTimerExpiry | batteryConversionDone _ | intervalExpiry
  | beaconWaitExpiry | grantWaitExpiry | txWaitExpiry =>
    simp only [exec, execShiftLatchDone, execLockBlankEnd, execLock, execLockWaitExpiry, execSettleExpiry,
      execRoundExpiry, execSampleTimerExpiry, execRssiConversionDone, execListenExpiry, execBatteryTimerExpiry,
      execBatteryConversionDone, execIntervalExpiry, execBeaconWaitExpiry, execGrantWaitExpiry, execTxWaitExpiry]
    (repeat' split) <;> first
      | exact keepsSettings_self _ s
      | exact keepsSettings_finish (Part.sameSettings_of_keeps (by simp [Part.Keeps]))
      | exact keepsSettings_of_keeps (by simp [Part.Keeps])

/-! ### The events that interpret a record -/

/-- A byte on LRX touches the link alone, and of the link not the enable set (R181). -/
theorem Part.receive_link (b : Byte) (p : Part) :
    ∃ link, link.enabled = p.link.enabled ∧ p.receive b = { p with link := link } := by
  unfold Part.receive Part.endFrame Part.framingError
  (repeat' split) <;> exact ⟨_, by rfl, rfl⟩

/-- The settings are kept, or are what a record's command leaves on a part that differs in its link alone. -/
def SettingsByRecord (s t : State) : Prop :=
  s.part.SameSettings t.part ∨
    ∃ kind payload link, link.enabled = s.part.link.enabled ∧
      exec (rowOfRecord kind payload) (s.withPart { s.part with link := link }) = .next t

theorem settingsByRecord_of_same {s : State} {q : Part} (h : s.part.SameSettings q) :
    SettingsByRecord s (s.withPart q) := .inl h

/-- The interpretation of what is due on a link of its own, and the end of its step after it. -/
theorem settingsByRecord_interpretDue {s : State} {link : Link} (h : link.enabled = s.part.link.enabled) :
    SettingsByRecord s (s.withPart ({ s.part with link := link } : Part).interpretDue) ∧
      SettingsByRecord s (s.withPart ({ s.part with link := link } : Part).interpretDue.finish) := by
  obtain hsame | ⟨kind, payload, hfinish, hexec⟩ := Part.interpretDue_cases { s.part with link := link }
  · have hkept := (Part.withLink_sameSettings h).trans hsame
    exact ⟨settingsByRecord_of_same hkept, settingsByRecord_of_same (hkept.trans (Part.finish_sameSettings _))⟩
  · rw [hfinish, and_self]
    exact .inr ⟨kind, payload, { link with buffer := none }, h, hexec s⟩

theorem receive_settingsByRecord (b : Byte) (s : State) :
    SettingsByRecord s (s.withPart (s.part.receive b).interpretDue) := by
  obtain ⟨link, henabled, hlink⟩ := Part.receive_link b s.part
  rw [hlink]
  exact (settingsByRecord_interpretDue henabled).1

/-- The end of a record that is no RESET's reply frees the transmitter, and the reply slot of a reply (R185). -/
theorem recordSent_settingsByRecord {s : State} (h : s.part.link.resetDue = none) :
    SettingsByRecord s (s.withPart s.part.recordSent) := by
  unfold Part.recordSent
  split
  · exact settingsByRecord_of_same (.refl _)
  · let freed : Link := { s.part.link with tx := .idle, ltx := ltxRest, reply := none }
    have hreset : ({ s.part with link := freed } : Part).takeReset = { s.part with link := freed } := by
      simp [Part.takeReset, freed, h]
    show SettingsByRecord s (s.withPart ({ s.part with link := freed } : Part).takeReset.interpretDue.finish)
    rw [hreset]
    exact (settingsByRecord_interpretDue (link := freed) rfl).2
  · refine settingsByRecord_of_same (Part.SameSettings.trans ?_ (Part.finish_sameSettings _))
    exact Part.withLink_sameSettings rfl

/-- Settles O60: the events and host commands by what they keep (`exec_keepsSettings`), the two that interpret a record by
what they make of the receive buffer. -/
theorem hostSettingsChangeOnlyByTheirCommands : Obligations.HostSettingsChangeOnlyByTheirCommands := by
  unfold Obligations.HostSettingsChangeOnlyByTheirCommands
  refine ⟨fun c s t hpower hline hsent hbyte ht => ?_, fun c s t hc ht => ?_⟩
  · obtain ⟨u, hu, hby⟩ := exec_keepsSettings s hpower hline hsent hbyte
    obtain rfl : u = t := by rw [hu] at ht; cases ht; rfl
    exact ⟨hby.params, hby.identity, hby.enabled, hby.watches, hby.inputs⟩
  · obtain ⟨b, rfl⟩ | ⟨rfl, hdue⟩ := hc
    · obtain rfl : s.withPart (s.part.receive b).interpretDue = t := by cases ht; rfl
      exact receive_settingsByRecord b s
    · obtain rfl : s.withPart s.part.recordSent = t := by cases ht; rfl
      exact recordSent_settingsByRecord hdue

end Sys2Proof.Machine
end

section
/-! SUPPORT. IDENTITY (R118): the statement O13. -/

namespace Sys2Proof.Machine

/-- IDENTITY outside NONE is refused, whatever it carries (R118). -/
theorem answerIdentity_state {p : Part} (u1 u0 g1 g0 : Byte) (hm : p.aff.machine ≠ .none) :
    answerIdentity [u1, u0, g1, g0] p = p.refuse .state := if_pos (bne_iff_ne.2 hm)

/-- IDENTITY in NONE by its two ranges (R118). -/
theorem answerIdentity_none {p : Part} (u1 u0 g1 g0 : Byte) (hm : p.aff.machine = .none) :
    answerIdentity [u1, u0, g1, g0] p =
      if unitOk (u16 u1 u0) = true ∧ groupOk (u16 g1 g0) = true then
        ({ p with aff.identity := some ⟨u16 u1 u0, u16 g1 g0⟩ } : Part).ok []
      else p.refuse .badArg := by
  have hranges : answerIdentity [u1, u0, g1, g0] p =
      if (!unitOk (u16 u1 u0) || !groupOk (u16 g1 g0)) = true then p.refuse .badArg
      else ({ p with aff.identity := some ⟨u16 u1 u0, u16 g1 g0⟩ } : Part).ok [] := if_neg (by simp [hm])
  rw [hranges]
  cases unitOk (u16 u1 u0) <;> cases groupOk (u16 g1 g0) <;> rfl

/-- Settles O13: the machine state decides first, then the ranges. -/
theorem identityTakenOnlyInNone : Obligations.IdentityTakenOnlyInNone := by
  unfold Obligations.IdentityTakenOnlyInNone
  intro s tag u1 u0 g1 g0 htag h
  have hrefused {code : ReplyCode} (ha : answerIdentity [u1, u0, g1, g0] s.part = s.part.refuse code) :
      exec (.identity [tag, u1, u0, g1, g0]) s =
        .next (s.withPart (s.part.replied ⟨0x84, tag, code, []⟩)) :=
    congrArg (fun q => Host.Outcome.next (s.withPart q)) (Part.command_refused h htag ha)
  refine ⟨fun hm hu hg => ?_, fun hm hrange => ?_, fun hm _ _ => ?_⟩
  · have ha := (answerIdentity_none u1 u0 g1 g0 hm).trans (if_pos ⟨hu, hg⟩)
    exact congrArg (fun q => Host.Outcome.next (s.withPart q))
      (Part.command_taken h htag ha (Part.hears_live h) (Part.hears_driven h))
  · exact hrefused ((answerIdentity_none u1 u0 g1 g0 hm).trans (if_neg hrange))
  · exact hrefused (answerIdentity_state u1 u0 g1 g0 hm)

end Sys2Proof.Machine
end

section
/-! SUPPORT. The bytes of the air frames (R119, R196): each field written and read back, and each frame's layout. The
statement O9. -/

namespace Sys2Proof.Machine

/-! ### Numbers -/

theorem byte_toNat {n : Nat} (h : n < 256) : (byte n).toNat = n := by
  simp only [byte, BitVec.toNat_ofNat]; omega

@[simp] theorem byte_of_toNat (b : Byte) : byte b.toNat = b := by simp [byte]

theorem toNat_eq_iff_eq_byte {b : Byte} {n : Nat} (h : n < 256) : b.toNat = n ↔ b = byte n :=
  ⟨fun hb => by rw [← hb, byte_of_toNat], fun hb => by rw [hb, byte_toNat h]⟩

theorem u16_of_bytes {n : Nat} (h : n < 65536) : u16 (byte (n / 256)) (byte n) = n := by
  simp only [u16, byte, BitVec.toNat_ofNat]; omega

@[simp] theorem bytes16_u16 (hi lo : Byte) : bytes16 (u16 hi lo) = [hi, lo] := by
  have hhi : byte (u16 hi lo / 256) = hi := BitVec.eq_of_toNat_eq (by simp only [u16, byte, BitVec.toNat_ofNat]; omega)
  have hlo : byte (u16 hi lo) = lo := BitVec.eq_of_toNat_eq (by simp only [u16, byte, BitVec.toNat_ofNat]; omega)
  rw [bytes16, hhi, hlo]

theorem u16_lt (hi lo : Byte) : u16 hi lo < 65536 := by unfold u16; omega

theorem lt_of_siteOk {n : Nat} (h : siteOk n = true) : n < 65536 := by
  simp only [siteOk, Bool.and_eq_true, decide_eq_true_eq] at h; omega

theorem lt_of_channelOk {n : Nat} (h : channelOk n = true) : n < 65536 := by
  simp only [channelOk, decide_eq_true_eq] at h; omega

/-! ### Coded fields -/

theorem boolOfCode_iff (b : Byte) (on : Bool) : boolOfCode b.toNat = some on ↔ b = boolByte on := by
  have hcode : boolOfCode b.toNat = some on ↔ b.toNat = (boolByte on).toNat := by
    unfold boolOfCode
    split <;> cases on <;> simp_all [boolByte]
  rw [hcode, BitVec.toNat_inj]

theorem senseOfCode_iff (b : Byte) (sense : Sense) : senseOfCode b.toNat = some sense ↔ b = byte sense.code := by
  rw [← toNat_eq_iff_eq_byte (by cases sense <;> decide)]
  unfold senseOfCode
  split <;> cases sense <;> simp_all [Sense.code]

theorem refuseOfCode_iff (b : Byte) (reason : RefuseReason) :
    refuseOfCode b.toNat = some reason ↔ b = byte reason.code := by
  rw [← toNat_eq_iff_eq_byte (by cases reason <;> decide)]
  unfold refuseOfCode
  split <;> cases reason <;> simp_all [RefuseReason.code]

theorem addressOfCode_iff (b : Byte) (kind : AddressKind) :
    addressOfCode b.toNat = some kind ↔ b = byte kind.code := by
  rw [← toNat_eq_iff_eq_byte (by cases kind <;> decide)]
  unfold addressOfCode
  split <;> cases kind <;> simp_all [AddressKind.code]

/-- A slot byte is 0..31 or NONE (R119, R196). -/
theorem slotOfByte_iff (b : Byte) (slot : Option Nat) :
    slotOfByte b = some slot ↔ b = slotByte slot ∧ slot.all (fun n => decide (n ≤ 31)) = true := by
  unfold slotOfByte
  cases slot with
  | none =>
    have hnone : b.toNat = 255 ↔ b = slotByte none := toNat_eq_iff_eq_byte (by decide)
    rw [← hnone]
    split
    · simp; omega
    · split <;> simp_all
  | some n =>
    have hsome (h : n ≤ 31) : b.toNat = n ↔ b = slotByte (some n) := toNat_eq_iff_eq_byte (by omega)
    simp only [Option.all_some, decide_eq_true_eq]
    constructor
    · intro h
      have hb : b.toNat ≤ 31 ∧ b.toNat = n := by split_ifs at h <;> simp_all
      exact ⟨(hsome (by omega)).1 hb.2, by omega⟩
    · rintro ⟨hb, hn⟩
      have := (hsome hn).2 hb
      rw [if_pos (by omega), this]

/-- A serving level's byte is the level, or 0xFF for none (R196). -/
theorem levelOfByte_iff (b : Byte) (level : Option Nat) :
    levelOfByte b = level ↔ b = byte (level.getD 255) ∧ level.all (fun n => decide (n < 255)) = true := by
  unfold levelOfByte
  cases level with
  | none =>
    rw [Option.getD_none, ← toNat_eq_iff_eq_byte (by decide)]
    split <;> simp_all
  | some n =>
    simp only [Option.getD_some, Option.all_some, decide_eq_true_eq]
    constructor
    · intro h
      have hb : b.toNat ≠ 255 ∧ b.toNat = n := by
        split_ifs at h with hnone
        exact ⟨hnone, Option.some.inj h⟩
      exact ⟨(toNat_eq_iff_eq_byte (by omega)).1 hb.2, by omega⟩
    · rintro ⟨hb, hn⟩
      have := (toNat_eq_iff_eq_byte (by omega)).2 hb
      rw [if_neg (by omega), this]

/-- The flags byte of a STATUS REPORT gives its four named flags (R148, R196). -/
theorem ReportFlags.of_byte (f : ReportFlags) :
    (⟨f.byte.getLsbD 0, f.byte.getLsbD 1, f.byte.getLsbD 2, f.byte.getLsbD 3⟩ : ReportFlags) = f := by
  simp only [ReportFlags.byte, flagByte_getLsbD _ (show 0 < 8 by decide), flagByte_getLsbD _ (show 1 < 8 by decide),
    flagByte_getLsbD _ (show 2 < 8 by decide), flagByte_getLsbD _ (show 3 < 8 by decide)]
  rfl

/-! ### The neighbour entries of a BEACON -/

/-- Neighbour entries in their ranges are read from their bytes, and from no others (R119, R196). -/
theorem parseNeighbours_iff (bytes : List Byte) (entries : List (Nat × Nat)) :
    parseNeighbours bytes = some entries ↔
      bytes = neighbourBytes entries ∧ entries.all (fun n => siteOk n.1 && channelOk n.2) = true := by
  constructor
  · intro h
    induction bytes using parseNeighbours.induct generalizing entries with
    | case1 =>
      obtain rfl : [] = entries := by simpa [parseNeighbours] using h
      simp [neighbourBytes]
    | case2 a b c d rest hrange ih =>
      simp only [parseNeighbours, hrange, if_true, Option.map_eq_some_iff] at h
      obtain ⟨others, hothers, rfl⟩ := h
      obtain ⟨rfl, hall⟩ := ih others hothers
      simp only [Bool.and_eq_true] at hrange
      simp [neighbourBytes, hrange, hall]
    | case3 a b c d rest hrange => simp [parseNeighbours, hrange] at h
    | case4 bytes hempty hfour => simp [parseNeighbours] at h
  · rintro ⟨rfl, hall⟩
    induction entries with
    | nil => rfl
    | cons entry entries ih =>
      simp only [List.all_cons, Bool.and_eq_true] at hall
      obtain ⟨⟨hsite, hchannel⟩, hothers⟩ := hall
      have hread := ih (by simpa using hothers)
      simp [neighbourBytes, bytes16, parseNeighbours, u16_of_bytes (lt_of_siteOk hsite),
        u16_of_bytes (lt_of_channelOk hchannel), hsite, hchannel, hread]

theorem neighbourBytes_length (entries : List (Nat × Nat)) : (neighbourBytes entries).length = 4 * entries.length := by
  induction entries with
  | nil => rfl
  | cons entry entries ih => simp [neighbourBytes, bytes16, ih]; omega

/-! ### What is read is what was sent -/

/-- A frame in range whose bytes are a kind, a site and further fields. -/
structure AirFrame.IsOf (f : AirFrame) (kind : Byte) (site : Nat) (fields : List Byte) : Prop where
  ranged : f.inRange = true
  laid : f.bytes = kind :: (bytes16 site ++ fields)

section

variable {site : Nat} {fields : List Byte} {f : AirFrame}

theorem parseBeacon_isOf (hs : siteOk site = true) (h : parseBeacon site fields = some f) : f.IsOf 0x11 site fields := by
  unfold parseBeacon at h
  split at h
  next c1 c0 load cls acc n rest =>
    split at h
    next hranges =>
      simp only [Bool.and_eq_true, decide_eq_true_eq] at hranges
      obtain ⟨⟨⟨⟨hchannel, hload⟩, hcls⟩, hn⟩, hlength⟩ := hranges
      split at h
      next accepting entries hacc hentries =>
        cases h
        obtain ⟨rfl, hall⟩ := (parseNeighbours_iff _ _).1 hentries
        obtain rfl := (boolOfCode_iff _ _).1 hacc
        rw [neighbourBytes_length] at hlength
        have hcount : entries.length = n.toNat := by omega
        refine ⟨?_, by simp [AirFrame.bytes, hcount]⟩
        simp [AirFrame.inRange, hs, hchannel, hload, hcls, hcount, hn, hall]
      next => cases h
    next => cases h
  next => cases h

theorem parseGrant_isOf (hs : siteOk site = true) (h : parseGrant site fields = some f) : f.IsOf 0x12 site fields := by
  unfold parseGrant at h
  split at h
  next u1 u0 slot sense =>
    split at h
    next slot sense hslot hsense =>
      cases h
      obtain ⟨rfl, hslots⟩ := (slotOfByte_iff _ _).1 hslot
      obtain rfl := (senseOfCode_iff _ _).1 hsense
      exact ⟨by simp [AirFrame.inRange, hs, u16_lt, hslots], by simp [AirFrame.bytes]⟩
    next => cases h
  next => cases h

theorem parseRefuse_isOf (hs : siteOk site = true) (h : parseRefuse site fields = some f) :
    f.IsOf 0x13 site fields := by
  unfold parseRefuse at h
  split at h
  next u1 u0 reason retry =>
    obtain ⟨reason, hreason, rfl⟩ := Option.map_eq_some_iff.1 h
    obtain rfl := (refuseOfCode_iff _ _).1 hreason
    exact ⟨by simp [AirFrame.inRange, hs, u16_lt, retry.isLt], by simp [AirFrame.bytes]⟩
  next => cases h

theorem parseRelease_isOf (hs : siteOk site = true) (h : parseRelease site fields = some f) :
    f.IsOf 0x14 site fields := by
  unfold parseRelease at h
  split at h
  next u1 u0 retry =>
    cases h
    exact ⟨by simp [AirFrame.inRange, hs, u16_lt, retry.isLt], by simp [AirFrame.bytes]⟩
  next => cases h

theorem parseRollCall_isOf (hs : siteOk site = true) (h : parseRollCall site fields = some f) :
    f.IsOf 0x15 site fields := by
  unfold parseRollCall at h
  split at h
  next => cases h; exact ⟨hs, by simp [AirFrame.bytes]⟩
  next => cases h

theorem parseStatusQuery_isOf (hs : siteOk site = true) (h : parseStatusQuery site fields = some f) :
    f.IsOf 0x16 site fields := by
  unfold parseStatusQuery at h
  split at h
  next u1 u0 => cases h; exact ⟨by simp [AirFrame.inRange, hs, u16_lt], by simp [AirFrame.bytes]⟩
  next => cases h

theorem parseDirect_isOf (hs : siteOk site = true) (h : parseDirect site fields = some f) :
    f.IsOf 0x17 site fields := by
  unfold parseDirect at h
  split at h
  next k a1 a0 t1 t0 c1 c0 =>
    split at h
    next hranges =>
      simp only [Bool.and_eq_true] at hranges
      obtain ⟨htarget, hchannel⟩ := hranges
      obtain ⟨kind, hkind, rfl⟩ := Option.map_eq_some_iff.1 h
      obtain rfl := (addressOfCode_iff _ _).1 hkind
      exact ⟨by simp [AirFrame.inRange, hs, u16_lt, htarget, hchannel], by simp [AirFrame.bytes]⟩
    next => cases h
  next => cases h

theorem parseRegister_isOf (hs : siteOk site = true) (h : parseRegister site fields = some f) :
    f.IsOf 0x21 site fields := by
  unfold parseRegister at h
  split at h
  next u1 u0 g1 g0 p1 p0 e =>
    obtain ⟨emergency, hemergency, rfl⟩ := Option.map_eq_some_iff.1 h
    obtain rfl := (boolOfCode_iff _ _).1 hemergency
    exact ⟨by simp [AirFrame.inRange, hs, u16_lt], by simp [AirFrame.bytes]⟩
  next => cases h

theorem parseRollAnswer_isOf (hs : siteOk site = true) (h : parseRollAnswer site fields = some f) :
    f.IsOf 0x22 site fields := by
  unfold parseRollAnswer at h
  split at h
  next u1 u0 slot =>
    obtain ⟨slot, hslot, rfl⟩ := Option.map_eq_some_iff.1 h
    obtain ⟨rfl, hslots⟩ := (slotOfByte_iff _ _).1 hslot
    exact ⟨by simp [AirFrame.inRange, hs, u16_lt, hslots], by simp [AirFrame.bytes]⟩
  next => cases h

theorem parseDeregister_isOf (hs : siteOk site = true) (h : parseDeregister site fields = some f) :
    f.IsOf 0x24 site fields := by
  unfold parseDeregister at h
  split at h
  next u1 u0 => cases h; exact ⟨by simp [AirFrame.inRange, hs, u16_lt], by simp [AirFrame.bytes]⟩
  next => cases h

/-- The unnamed flag bits of a STATUS REPORT are not read, its ranges are. -/
theorem parseStatusReport_inRange (hs : siteOk site = true) (h : parseStatusReport site fields = some f) :
    f.inRange = true := by
  unfold parseStatusReport at h
  split at h
  next u1 u0 flags level count =>
    cases h
    obtain ⟨-, hlevel⟩ := (levelOfByte_iff level _).1 rfl
    simp [AirFrame.inRange, hs, u16_lt, hlevel, count.isLt]
  next => cases h

/-- Whatever fields are read, by kind: a frame in range with those fields. -/
theorem parseAirFields_isOf {kind : Byte} (hs : siteOk site = true) (h : parseAirFields kind.toNat site fields = some f) :
    f.inRange = true ∧ (kind ≠ 0x23 → f.IsOf kind site fields) := by
  have hof {k : Nat} (hk : k < 256) (hkind : kind.toNat = k) (hread : f.IsOf (byte k) site fields) :
      f.inRange = true ∧ (kind ≠ 0x23 → f.IsOf kind site fields) := by
    rw [(toNat_eq_iff_eq_byte hk).1 hkind]
    exact ⟨hread.ranged, fun _ => hread⟩
  unfold parseAirFields at h
  obtain ⟨hk, h⟩ | ⟨-, h⟩ := ite_eq_iff.1 h
  · exact hof (by decide) hk (parseBeacon_isOf hs h)
  obtain ⟨hk, h⟩ | ⟨-, h⟩ := ite_eq_iff.1 h
  · exact hof (by decide) hk (parseGrant_isOf hs h)
  obtain ⟨hk, h⟩ | ⟨-, h⟩ := ite_eq_iff.1 h
  · exact hof (by decide) hk (parseRefuse_isOf hs h)
  obtain ⟨hk, h⟩ | ⟨-, h⟩ := ite_eq_iff.1 h
  · exact hof (by decide) hk (parseRelease_isOf hs h)
  obtain ⟨hk, h⟩ | ⟨-, h⟩ := ite_eq_iff.1 h
  · exact hof (by decide) hk (parseRollCall_isOf hs h)
  obtain ⟨hk, h⟩ | ⟨-, h⟩ := ite_eq_iff.1 h
  · exact hof (by decide) hk (parseStatusQuery_isOf hs h)
  obtain ⟨hk, h⟩ | ⟨-, h⟩ := ite_eq_iff.1 h
  · exact hof (by decide) hk (parseDirect_isOf hs h)
  obtain ⟨hk, h⟩ | ⟨-, h⟩ := ite_eq_iff.1 h
  · exact hof (by decide) hk (parseRegister_isOf hs h)
  obtain ⟨hk, h⟩ | ⟨-, h⟩ := ite_eq_iff.1 h
  · exact hof (by decide) hk (parseRollAnswer_isOf hs h)
  obtain ⟨hk, h⟩ | ⟨-, h⟩ := ite_eq_iff.1 h
  · have hreport : kind = 0x23 := (toNat_eq_iff_eq_byte (by decide)).1 hk
    exact ⟨parseStatusReport_inRange hs h, fun hne => absurd hreport hne⟩
  obtain ⟨hk, h⟩ | ⟨-, h⟩ := ite_eq_iff.1 h
  · exact hof (by decide) hk (parseDeregister_isOf hs h)
  · cases h

end

/-- Bytes that are read are those of a frame in range, but for a STATUS REPORT's unnamed flag bits (R119). -/
theorem parseAir_bytes {bytes : List Byte} {f : AirFrame} (h : parseAir bytes = some f) :
    f.inRange = true ∧ (bytes.headD 0 ≠ 0x23 → f.bytes = bytes) := by
  unfold parseAir at h
  split at h
  next kind s1 s0 fields =>
    split at h
    next hs =>
      obtain ⟨hranged, hof⟩ := parseAirFields_isOf hs h
      exact ⟨hranged, fun hkind => by simpa using (hof hkind).laid⟩
    next => cases h
  next => cases h

/-! ### What is sent is read -/

/-- A frame in range is read from its bytes, field by field. -/
theorem parseAir_of_inRange {f : AirFrame} (h : f.inRange = true) : parseAir f.bytes = some f := by
  cases f with
  | beacon b =>
    simp only [AirFrame.inRange, Bool.and_eq_true, decide_eq_true_eq] at h
    obtain ⟨⟨⟨⟨⟨hs, hchannel⟩, hload⟩, hcls⟩, hcount⟩, hall⟩ := h
    have hentries := (parseNeighbours_iff _ _).2 ⟨rfl, hall⟩
    have hacc := (boolOfCode_iff _ b.accepting).2 rfl
    simp [AirFrame.bytes, bytes16, parseAir, parseAirFields, parseBeacon, u16_of_bytes (lt_of_siteOk hs),
      u16_of_bytes (lt_of_channelOk hchannel), byte_toNat (show b.load < 256 by omega),
      byte_toNat (show b.cls < 256 by omega), byte_toNat (show b.neighbours.length < 256 by omega),
      neighbourBytes_length, hs, hchannel, hload, hcls, hcount, hacc, hentries]
  | grant site unit slot sense =>
    simp only [AirFrame.inRange, Bool.and_eq_true, decide_eq_true_eq] at h
    obtain ⟨⟨hs, hunit⟩, hslot⟩ := h
    simp [AirFrame.bytes, bytes16, parseAir, parseAirFields, parseGrant, u16_of_bytes (lt_of_siteOk hs),
      u16_of_bytes hunit, hs, (slotOfByte_iff _ slot).2 ⟨rfl, hslot⟩, (senseOfCode_iff _ sense).2 rfl]
  | refuse site unit reason retry =>
    simp only [AirFrame.inRange, Bool.and_eq_true, decide_eq_true_eq] at h
    obtain ⟨⟨hs, hunit⟩, hretry⟩ := h
    simp [AirFrame.bytes, bytes16, parseAir, parseAirFields, parseRefuse, u16_of_bytes (lt_of_siteOk hs),
      u16_of_bytes hunit, hs, (refuseOfCode_iff _ reason).2 rfl, byte_toNat hretry]
  | release site unit retry =>
    simp only [AirFrame.inRange, Bool.and_eq_true, decide_eq_true_eq] at h
    obtain ⟨⟨hs, hunit⟩, hretry⟩ := h
    simp [AirFrame.bytes, bytes16, parseAir, parseAirFields, parseRelease, u16_of_bytes (lt_of_siteOk hs),
      u16_of_bytes hunit, hs, byte_toNat hretry]
  | rollCall site =>
    have hs : siteOk site = true := h
    simp [AirFrame.bytes, bytes16, parseAir, parseAirFields, parseRollCall, u16_of_bytes (lt_of_siteOk hs), hs]
  | statusQuery site unit =>
    simp only [AirFrame.inRange, Bool.and_eq_true, decide_eq_true_eq] at h
    obtain ⟨hs, hunit⟩ := h
    simp [AirFrame.bytes, bytes16, parseAir, parseAirFields, parseStatusQuery, u16_of_bytes (lt_of_siteOk hs),
      u16_of_bytes hunit, hs]
  | direct site kind address target channel =>
    simp only [AirFrame.inRange, Bool.and_eq_true, decide_eq_true_eq] at h
    obtain ⟨⟨⟨hs, haddress⟩, htarget⟩, hchannel⟩ := h
    simp [AirFrame.bytes, bytes16, parseAir, parseAirFields, parseDirect, u16_of_bytes (lt_of_siteOk hs),
      u16_of_bytes haddress, u16_of_bytes (lt_of_siteOk htarget), u16_of_bytes (lt_of_channelOk hchannel), hs, htarget,
      hchannel, (addressOfCode_iff _ kind).2 rfl]
  | register site unit group previous emergency =>
    simp only [AirFrame.inRange, Bool.and_eq_true, decide_eq_true_eq] at h
    obtain ⟨⟨⟨hs, hunit⟩, hgroup⟩, hprevious⟩ := h
    simp [AirFrame.bytes, bytes16, parseAir, parseAirFields, parseRegister, u16_of_bytes (lt_of_siteOk hs),
      u16_of_bytes hunit, u16_of_bytes hgroup, u16_of_bytes hprevious, hs, (boolOfCode_iff _ emergency).2 rfl]
  | rollAnswer site unit slot =>
    simp only [AirFrame.inRange, Bool.and_eq_true, decide_eq_true_eq] at h
    obtain ⟨⟨hs, hunit⟩, hslot⟩ := h
    simp [AirFrame.bytes, bytes16, parseAir, parseAirFields, parseRollAnswer, u16_of_bytes (lt_of_siteOk hs),
      u16_of_bytes hunit, hs, (slotOfByte_iff _ slot).2 ⟨rfl, hslot⟩]
  | statusReport site unit flags level count =>
    simp only [AirFrame.inRange, Bool.and_eq_true, decide_eq_true_eq] at h
    obtain ⟨⟨⟨hs, hunit⟩, hlevel⟩, hcount⟩ := h
    have hreport : parseStatusReport site
        [byte (unit / 256), byte unit, flags.byte, byte (level.getD 255), byte count] =
          some (.statusReport site unit flags level count) := by
      simp only [parseStatusReport, u16_of_bytes hunit, flags.of_byte, (levelOfByte_iff _ level).2 ⟨rfl, hlevel⟩,
        byte_toNat hcount]
    simp [AirFrame.bytes, bytes16, parseAir, parseAirFields, u16_of_bytes (lt_of_siteOk hs), hs, hreport]
  | deregister site unit =>
    simp only [AirFrame.inRange, Bool.and_eq_true, decide_eq_true_eq] at h
    obtain ⟨hs, hunit⟩ := h
    simp [AirFrame.bytes, bytes16, parseAir, parseAirFields, parseDeregister, u16_of_bytes (lt_of_siteOk hs),
      u16_of_bytes hunit, hs]

/-- Settles O9: each layout is read from its bytes, and only from them. -/
theorem airFramesReadBack : Obligations.AirFramesReadBack :=
  ⟨fun _ h => parseAir_of_inRange h, fun _ _ h => parseAir_bytes h⟩

end Sys2Proof.Machine
end

section
/-! SUPPORT. Air frames that are refused, and those that are discarded (R119, R120, R122): the statement O40. -/

namespace Sys2Proof.Machine

/-! ### Malformed frames -/

/-- A frame that cannot be read is refused (R119). -/
theorem exec_airIn_badArg {s : State} {tag : Byte} {args : List Byte} (htag : tag ≠ 0) (h : s.part.hears = true)
    (hparse : parseAir args = none) :
    exec (.airIn (tag :: args)) s = .next (s.withPart (s.part.replied ⟨0x90, tag, .badArg, []⟩)) := by
  have ha : answerAirIn args s.part = s.part.refuse .badArg := by
    unfold answerAirIn
    split
    · rw [hparse]
    · rfl
  exact congrArg (fun p => Host.Outcome.next (s.withPart p)) (Part.command_refused h htag ha)

/-- Bytes of a kind other than STATUS REPORT that are no frame's in range are not read. -/
theorem parseAir_of_noFrame {bytes : List Byte} (hkind : bytes.headD 0 ≠ 0x23)
    (h : ∀ f : AirFrame, f.inRange = true → f.bytes ≠ bytes) : parseAir bytes = none := by
  refine Option.eq_none_iff_forall_ne_some.2 (fun f hf => ?_)
  obtain ⟨hranged, hbytes⟩ := parseAir_bytes hf
  exact h f hranged (hbytes hkind)

/-- A STATUS REPORT of the wrong length or with its site ID out of range is not read (R119). -/
theorem parseAir_statusReport_none {bytes : List Byte} (hkind : bytes.headD 0 = 0x23)
    (h : bytes.length ≠ 8 ∨ siteOk (u16 (bytes.getD 1 0) (bytes.getD 2 0)) = false) : parseAir bytes = none := by
  unfold parseAir
  split
  next kind s1 s0 fields =>
    obtain rfl : kind = 0x23 := hkind
    split
    next hs =>
      have hlength : fields.length ≠ 5 := h.elim (by simp) (fun hout => absurd hs (by simp_all))
      show parseStatusReport _ fields = none
      unfold parseStatusReport
      split
      next => simp at hlength
      next => rfl
    next => rfl
  next => rfl

/-! ### Frames that are not for this radio now -/

theorem Part.ownUnit_of_ne {p : Part} {unit : Nat} (h : p.aff.identity.map Identity.unit ≠ some unit) :
    p.ownUnit unit = false := by
  simpa [Part.ownUnit] using h

theorem Part.addressed_of_ne {p : Part} {kind : AddressKind} {address : Nat}
    (h : (match kind with
      | .unit => p.aff.identity.map Identity.unit
      | .group => p.aff.identity.map Identity.group) ≠ some address) : p.addressed kind address = false := by
  cases kind with
  | unit => exact Part.ownUnit_of_ne h
  | group => simpa [Part.addressed] using h

/-- A frame of another site, or one that finds the radio elsewhere, is no serving site's (R122). -/
theorem Part.fromServing_of_not {p : Part} {site : Nat}
    (h : p.aff.serving ≠ some site ∨ p.aff.machine ≠ .registered ∨ p.tuning.position ≠ .home) :
    p.fromServing site = false := by
  simp only [Part.fromServing, Bool.and_eq_false_iff, beq_eq_false_iff_ne]
  tauto

/-- A frame of no target, or one outside HO_SEND and HO_GRANT, answers nothing (R122). -/
theorem Part.answering_of_not {p : Part} {site : Nat}
    (h : p.aff.ctx.map Context.target ≠ some site ∨ (p.aff.machine ≠ .hoSend ∧ p.aff.machine ≠ .hoGrant)) :
    p.answering site = none := by
  unfold Part.answering
  split
  next ctx hctx => exact if_neg (by simp_all; tauto)
  next => rfl

/-- A GRANT or REFUSE for another unit, or one that answers nothing, is passed over. -/
theorem Part.answer_passedOver {p : Part} {site unit : Nat}
    (h : p.aff.identity.map Identity.unit ≠ some unit ∨ p.aff.ctx.map Context.target ≠ some site ∨
      (p.aff.machine ≠ .hoSend ∧ p.aff.machine ≠ .hoGrant)) :
    p.ownUnit unit = false ∨ p.answering site = none :=
  h.imp Part.ownUnit_of_ne Part.answering_of_not

/-- A discarded frame changes nothing (R119, R120, R122). -/
theorem Part.takeFrame_discards {p : Part} {f : AirFrame} (h : p.Discards f) : p.takeFrame f = p := by
  cases f with
  | beacon b => exact if_neg h
  | grant site unit slot sense =>
    have hpassed := Part.answer_passedOver h
    unfold Part.takeFrame
    dsimp only
    split
    next hunit hanswer => simp [hunit, hanswer] at hpassed
    next => rfl
  | refuse site unit reason retry =>
    have hpassed := Part.answer_passedOver h
    unfold Part.takeFrame
    dsimp only
    split
    next hunit hanswer => simp [hunit, hanswer] at hpassed
    next => rfl
  | release site unit retry =>
    have hpassed := h.imp Part.ownUnit_of_ne Part.fromServing_of_not
    exact if_neg (ne_true_of_eq_false (Bool.and_eq_false_iff.2 hpassed))
  | rollCall site => exact if_neg (ne_true_of_eq_false (Part.fromServing_of_not h))
  | statusQuery site unit =>
    have hpassed := h.imp Part.ownUnit_of_ne Part.fromServing_of_not
    exact if_neg (ne_true_of_eq_false (Bool.and_eq_false_iff.2 hpassed))
  | direct site kind address target channel =>
    have hpassed := h.imp Part.addressed_of_ne Part.fromServing_of_not
    exact if_neg (ne_true_of_eq_false (Bool.and_eq_false_iff.2 hpassed))
  | register | rollAnswer | statusReport | deregister => rfl

/-- Settles O40: a frame that is not read is refused, and one that is discarded leaves the part as it is. -/
theorem framesForOthersAreDiscarded : Obligations.FramesForOthersAreDiscarded := by
  unfold Obligations.FramesForOthersAreDiscarded
  refine ⟨fun s tag args htag h _ _ hparse => exec_airIn_badArg htag h hparse,
    fun s tag args htag h _ _ hnone => ?_, fun s tag args f hf hdiscards => ?_⟩
  · obtain ⟨hkind, hnoFrame⟩ | ⟨hkind, hwrong⟩ := hnone
    · exact exec_airIn_badArg htag h (parseAir_of_noFrame hkind hnoFrame)
    · exact exec_airIn_badArg htag h (parseAir_statusReport_none hkind hwrong)
  · exact hf.replied (Part.takeFrame_discards hdiscards) (Part.hears_live hf.heard) (Part.hears_driven hf.heard)

end Sys2Proof.Machine
end

section
/-! SUPPORT. The end of the outstanding transmit request, by AIR SENT or by TX_WAIT (R124, R126, R137, R142): the statement
O45. -/

namespace Sys2Proof.Machine

/-! ### AIR SENT -/

/-- The code of an outcome (R196). -/
theorem outcomeOfCode_of {code : Byte} {outcome : TxOutcome}
    (h : code = (match outcome with | .sent => 0 | .notSent => 1)) : outcomeOfCode code.toNat = some outcome := by
  cases outcome <;> (subst h; rfl)

/-- AIR SENT with a defined outcome, heard (R124). -/
theorem exec_airSent {s : State} {tag number code : Byte} {outcome : TxOutcome} (htag : tag ≠ 0)
    (h : s.part.hears = true) (hcode : outcomeOfCode code.toNat = some outcome) :
    exec (.airSent [tag, number, code]) s =
      .next (s.withPart ((s.part.airSent number.toNat outcome).part.placeReply
        ⟨0x91, tag, (s.part.airSent number.toNat outcome).code, (s.part.airSent number.toNat outcome).data⟩)) := by
  have ha : answerAirSent [number, code] s.part = s.part.airSent number.toNat outcome := by
    simp only [answerAirSent, hcode]
  show Host.Outcome.next (s.withPart (s.part.command 0x11 [tag, number, code] answerAirSent)) = _
  rw [Part.command_of_hears h htag, ha]
  rfl

/-- AIR SENT for the outstanding request ends it (R124). -/
theorem exec_airSent_ends {s : State} {tag number code : Byte} {outcome : TxOutcome} {tx : TxReq} (htag : tag ≠ 0)
    (h : s.part.hears = true) (hcode : outcomeOfCode code.toNat = some outcome) (htx : s.part.aff.tx = some tx)
    (hnumber : tx.number = number.toNat) :
    exec (.airSent [tag, number, code]) s =
      .next (s.withPart ((s.part.endTx tx outcome).placeReply ⟨0x91, tag, .ok, []⟩)) := by
  have hends : s.part.airSent number.toNat outcome = (s.part.endTx tx outcome).ok [] := by
    simp only [Part.airSent, htx, hnumber, if_true]
  rw [exec_airSent htag h hcode, hends]
  rfl

/-- A number that is not the outstanding request's is refused (R124). -/
theorem Part.airSent_state {p : Part} {number : Nat} (outcome : TxOutcome)
    (h : ∀ tx, p.aff.tx = some tx → tx.number ≠ number) : p.airSent number outcome = p.refuse .state := by
  unfold Part.airSent
  split
  next tx htx => exact if_neg (h tx htx)
  next => rfl

/-! ### The end by kind -/

/-- The part whose request has ended, before the outcome is handed on (R124). -/
def Part.unsent (p : Part) : Part := { p with aff.tx := none, aff.txTimer := none }

theorem Part.endTx_rollAnswer {p : Part} {tx : TxReq} (outcome : TxOutcome) (hk : tx.kind = .rollAnswer)
    (hr : p.aff.registerDue = false) (hd : p.aff.deregisterDue = false) : p.endTx tx outcome = p.unsent := by
  simp only [Part.endTx, hk]
  exact Part.issueWaiting_nothing hr hd

/-- The report's end clears the mark by R142, and issues nothing. -/
theorem Part.endTx_statusReport {p : Part} {tx : TxReq} (outcome : TxOutcome) (hk : tx.kind = .statusReport)
    (hr : p.aff.registerDue = false) (hd : p.aff.deregisterDue = false) :
    p.endTx tx outcome =
      { p.unsent with
        aff.request := p.aff.request &&
          !(decide (outcome = .sent) && tx.frame.carriesRequest && !p.active .emerg) } := by
  have hended : p.unsent.reportEnded tx.frame outcome =
      { p.unsent with
        aff.request := p.aff.request &&
          !(decide (outcome = .sent) && tx.frame.carriesRequest && !p.active .emerg) } := by
    unfold Part.reportEnded
    have hactive : p.unsent.active .emerg = p.active .emerg := rfl
    rw [hactive]
    split
    next hclears => simp [hclears]
    next hstands => simp [hstands, Part.unsent]
  have hends : p.endTx tx outcome = (p.unsent.reportEnded tx.frame outcome).issueWaiting := by
    simp only [Part.endTx, hk]
    rfl
  rw [hends, hended]
  exact Part.issueWaiting_nothing hr hd

/-- A REGISTER sent in HO_SEND has its grant wait started (R126). -/
theorem Part.endTx_registerSent {p : Part} {tx : TxReq} {ctx : Context} (hk : tx.kind = .register)
    (hctx : p.aff.ctx = some ctx) (hm : p.aff.machine = .hoSend) (hr : p.aff.registerDue = false)
    (hd : p.aff.deregisterDue = false) :
    p.endTx tx .sent =
      { p.unsent with aff.machine := .hoGrant, aff.hoTimer := some ⟨.grantWait, p.params.grantWaitMs⟩ } := by
  have hended : p.unsent.registerEnded .sent =
      { p.unsent with aff.machine := .hoGrant, aff.hoTimer := some ⟨.grantWait, p.params.grantWaitMs⟩ } := by
    simp [Part.registerEnded, Part.unsent, hctx, hm, hr]
  have hends : p.endTx tx .sent = (p.unsent.registerEnded .sent).issueWaiting := by
    simp only [Part.endTx, hk]
    rfl
  rw [hends, hended]
  exact Part.issueWaiting_nothing hr hd

/-- A DEREGISTER that ends takes the radio to NONE (R137). -/
theorem Part.endTx_deregister {p : Part} {tx : TxReq} (outcome : TxOutcome) (hk : tx.kind = .deregister)
    (hd : p.aff.deregisterDue = false) :
    p.endTx tx outcome = ({ p.unsent with aff.signingOff := false } : Part).goNone .signedOff := by
  simp only [Part.endTx, hk]
  exact Part.issueWaiting_nothing (by simp [Part.goNone_controller]) (by simp [Part.goNone_controller, hd])

theorem Part.Parked.placeReply {p : Part} (h : p.Parked) (r : Reply) : (p.placeReply r).Parked :=
  h.congr (by simp) (by simp)

/-- Away from HOME an interpretation ends with MUTE asserted (R39, R182). -/
theorem Part.Parked.placeReply_mute {p : Part} (h : p.Parked) (r : Reply) : (p.placeReply r).lines.mute = true :=
  Part.Parked.finish_mute (h.congr rfl rfl)

/-- Settles O45: each kind by what its end leaves, and the refusals by AIR SENT's checks. -/
theorem airSentEndsTheRequest : Obligations.AirSentEndsTheRequest := by
  unfold Obligations.AirSentEndsTheRequest
  refine ⟨fun s tag number code outcome htag h hcode => ?_, fun s tag number code tx htag h hcode _ _ => ?_,
    fun s tx hs htx htimer hk hr hd => ?_⟩
  · have hdefined := outcomeOfCode_of hcode
    refine ⟨fun hother => ?_, fun tx htx hnumber hr => ?_⟩
    · rw [exec_airSent htag h hdefined, Part.airSent_state outcome hother]
      exact congrArg _ (congrArg _ (Part.placeReply_eq _ (Part.hears_live h) (Part.hears_driven h)))
    have hends := exec_airSent_ends htag h hdefined htx hnumber
    have hreplied {q : Part} (hq : s.part.endTx tx outcome = q) (hlive : q.stepRoundLive = true)
        (hdriven : q.outputsDriven = true) :
        exec (.airSent [tag, number, code]) s = .next (s.withPart (q.replied ⟨0x91, tag, .ok, []⟩)) := by
      rw [hends, hq, Part.placeReply_eq _ hlive hdriven]
    have hlive := Part.hears_live h
    have hdriven := Part.hears_driven h
    refine ⟨fun hk hd => ?_, fun site unit flags level count hk hd hframe => ?_, fun hk hd hm hsent ctx hctx => ?_,
      fun hk hd => ⟨_, hends, Part.placeReply_reply _ _, ?_⟩⟩
    · exact hreplied (Part.endTx_rollAnswer outcome hk hr hd) hlive hdriven
    · have hflag : tx.frame.carriesRequest = flags.request := by rw [hframe]; rfl
      exact hreplied ((Part.endTx_statusReport outcome hk hr hd).trans (by rw [hflag]; rfl)) hlive hdriven
    · subst hsent
      exact hreplied (Part.endTx_registerSent hk hctx hm hr hd) hlive
        (Part.outputsDriven_away (p := s.part) rfl rfl (by rw [hm]; rfl) rfl hdriven)
    · rw [Part.endTx_deregister outcome hk hd]
      have hparked := Part.goNone_parked .signedOff { s.part.unsent with aff.signingOff := false }
      refine ⟨by simp [Part.goNone_controller, Part.unsent, hr], by simp [Part.goNone_sup],
        (hparked.placeReply _).parked, hparked.placeReply_mute _, by simp [Part.unsent]⟩
  · have hundefined : outcomeOfCode code.toNat = none := by
      unfold outcomeOfCode
      split <;> first | omega | rfl
    have ha : answerAirSent [number, code] s.part = s.part.refuse .badArg := by
      simp only [answerAirSent, hundefined]
    exact congrArg (fun p => Host.Outcome.next (s.withPart p)) (Part.command_refused h htag ha)
  · have hend : s.part.endTx tx .notSent = s.part.unsent := by
      obtain hk | hk := hk
      · exact Part.endTx_rollAnswer .notSent hk hr hd
      · rw [Part.endTx_statusReport .notSent hk hr hd]
        simp [Part.unsent]
    show execTxWaitExpiry s = _
    simp only [execTxWaitExpiry, htx, htimer, if_true, hend]
    exact congrArg _ (congrArg _ (Part.finish_of_settled hs))

end Sys2Proof.Machine
end

section
/-! SUPPORT. The answers to the serving site's ROLL CALL and STATUS QUERY, and the service request mark (R141, R144,
R145, R147, R148, R150): the statements O47, O48 and O50. -/

namespace Sys2Proof.Machine

/-! ### Frames of the serving site -/

theorem Part.takeFrame_rollCall {p : Part} {site : Nat} (h : p.fromServing site = true) :
    p.takeFrame (.rollCall site) = p.rollCall site := if_pos h

theorem Part.takeFrame_statusQuery {p : Part} {site unit : Nat} (hu : p.ownUnit unit = true)
    (h : p.fromServing site = true) : p.takeFrame (.statusQuery site unit) = p.statusQuery site :=
  if_pos (by simp [hu, h])

/-- A frame that is taken without effect is a reply OK and nothing else. -/
theorem TakesFrame.unchanged {s : State} {tag : Byte} {args : List Byte} {f : AirFrame} (h : TakesFrame s tag args f)
    (hq : s.part.takeFrame f = s.part) :
    exec (.airIn (tag :: args)) s = .next (s.withPart (s.part.replied ⟨0x90, tag, .ok, []⟩)) :=
  h.replied hq (Part.hears_live h.heard) (Part.hears_driven h.heard)

/-- A frame that issues a transmit request leaves the request's part and the reply OK: the request touches neither the
STEP round nor the outputs (R123). -/
theorem TakesFrame.issues {s : State} {tag : Byte} {args : List Byte} {f frame : AirFrame} {kind : TxKind} {delay : Nat}
    (h : TakesFrame s tag args f) (hq : s.part.takeFrame f = s.part.issueTx kind frame delay) :
    exec (.airIn (tag :: args)) s =
      .next (s.withPart ((s.part.issueTx kind frame delay).replied ⟨0x90, tag, .ok, []⟩)) :=
  h.replied hq (Part.live_of_queueNotice (by exact Part.hears_live h.heard))
    (Part.driven_of_queueNotice (by exact Part.hears_driven h.heard))

/-! ### ROLL CALL -/

/-- The table of R144. -/
theorem rollAnswerDue_iff (sense : Option Sense) (request : Bool) :
    rollAnswerDue sense request = true ↔
      (sense = some .present ∧ request = false) ∨ (sense = some .need ∧ request = true) := by
  cases sense with
  | none => simp [rollAnswerDue]
  | some sense => cases sense <;> simp [rollAnswerDue]

/-- The answer that is due is issued with the slot's delay (R144, R145). -/
theorem Part.rollCall_answers {p : Part} {slot : Nat} (site : Nat) (hslot : p.aff.slot = some slot)
    (htx : p.aff.tx = none) (hdue : rollAnswerDue p.aff.sense p.aff.request = true) :
    p.rollCall site = p.issueTx .rollAnswer (.rollAnswer site p.unit (some slot)) (slot * p.params.slotMs) := by
  simp [Part.rollCall, hslot, htx, hdue]

/-- Without a slot, with a request outstanding or with no answer due, a roll call does nothing (R144, R150). -/
theorem Part.rollCall_drops {p : Part} (site : Nat)
    (h : p.aff.slot = none ∨ p.aff.tx.isSome = true ∨ rollAnswerDue p.aff.sense p.aff.request = false) :
    p.rollCall site = p := by
  unfold Part.rollCall
  split
  next slot hslot =>
    obtain hnone | htx | hdue := h
    · simp [hslot] at hnone
    · exact if_neg (by simp [Option.ne_none_iff_isSome.2 htx])
    · exact if_neg (by simp [hdue])
  next => rfl

/-- Settles O47: the answer is due exactly by the table of R144, and is then the request that is issued. -/
theorem rollCallAnswered : Obligations.RollCallAnswered := by
  unfold Obligations.RollCallAnswered
  intro s tag args site hf hs hm hp
  have htake := Part.takeFrame_rollCall (Part.fromServing_of hs hm hp)
  refine ⟨fun slot hslot htx hdue => ?_, fun hdrop => ?_⟩
  · exact hf.issues (htake.trans (Part.rollCall_answers site hslot htx ((rollAnswerDue_iff _ _).2 hdue)))
  · refine hf.unchanged (htake.trans (Part.rollCall_drops site ?_))
    obtain hslot | htx | hmark := hdrop
    · exact .inl hslot
    · exact .inr (.inl htx)
    · have hnotDue : ¬ rollAnswerDue s.part.aff.sense s.part.aff.request = true := by
        rw [rollAnswerDue_iff]
        obtain ⟨hsense, hrequest⟩ | ⟨hsense, hrequest⟩ := hmark <;> simp [hsense, hrequest]
      exact .inr (.inr (Bool.eq_false_iff.2 hnotDue))

/-! ### STATUS QUERY -/

/-- The record tests of R84 with co-channel written out: a record other than the serving one is co-channel when it lies
on the serving channel. -/
theorem Part.candidateFit_eq (p : Part) (r : SiteRecord) :
    p.candidateFit r =
      (decide (p.aff.serving ≠ some r.site) && r.confirm.isSome && decide (p.servingChannel ≠ some r.channel) &&
        r.bar.isNone && r.level.isSome && decide (r.age ≤ p.params.staleLimit)) := by
  by_cases hs : p.aff.serving = some r.site
  · simp [Part.candidateFit, hs]
  · simp [Part.candidateFit, Part.coChannel, hs, bne, beq_eq_decide]

/-- The fields of a STATUS REPORT written out (R148). -/
theorem Part.reportFrame_eq {p : Part} {site unit : Nat} (hunit : p.aff.identity.map Identity.unit = some unit) :
    p.reportFrame site =
      .statusReport site unit
        ⟨p.aff.request, p.active .emerg, decide (p.lines.battery = .low), decide (p.sup.state ≠ .healthy)⟩
        ((p.record site).bind SiteRecord.q)
        (p.occupied.filter (fun x =>
          decide (p.aff.serving ≠ some x.2.site) && x.2.confirm.isSome &&
            decide (p.servingChannel ≠ some x.2.channel) && x.2.bar.isNone && x.2.level.isSome &&
            decide (x.2.age ≤ p.params.staleLimit))).length := by
  simp only [Part.reportFrame, Part.unit, hunit, Option.getD_some, Part.candidateFit_eq, bne, beq_eq_decide,
    decide_not]

theorem Part.statusQuery_answers {p : Part} (site : Nat) (h : p.aff.tx = none) :
    p.statusQuery site = p.issueTx .statusReport (p.reportFrame site) 0 := if_pos (by simp [h])

theorem Part.statusQuery_drops {p : Part} (site : Nat) (h : p.aff.tx.isSome = true) : p.statusQuery site = p :=
  if_neg (by simp [Option.ne_none_iff_isSome.2 h])

/-- Settles O48: the report is the request that is issued, its fields those of R148. -/
theorem statusQueryAnswered : Obligations.StatusQueryAnswered := by
  unfold Obligations.StatusQueryAnswered
  intro s tag args site unit hf hunit hs hm hp
  have htake := Part.takeFrame_statusQuery (Part.ownUnit_of hunit) (Part.fromServing_of hs hm hp)
  refine ⟨fun htx => ?_, fun htx => hf.unchanged (htake.trans (Part.statusQuery_drops site htx))⟩
  intro level count frame number
  have hlevel : (s.part.record site).bind SiteRecord.q = level := by
    simp only [level]
    cases s.part.record site <;> rfl
  have hframe : s.part.reportFrame site = frame := by rw [Part.reportFrame_eq hunit, hlevel]
  have hissue := Part.statusQuery_answers site htx
  rw [hframe] at hissue
  exact hf.issues (htake.trans hissue)

/-! ### REQUEST -/

/-- A REQUEST that changes the service request mark at most (R141). -/
theorem exec_request_taken {s : State} {tag action : Byte} {mark : Bool} (htag : tag ≠ 0) (h : s.part.hears = true)
    (hanswer : answerRequest [action] s.part = ({ s.part with aff.request := mark } : Part).ok []) :
    exec (.request [tag, action]) s =
      .next (s.withPart (({ s.part with aff.request := mark } : Part).replied ⟨0x94, tag, .ok, []⟩)) :=
  congrArg (fun p => Host.Outcome.next (s.withPart p))
    (Part.command_taken h htag hanswer (by exact Part.hears_live h) (by exact Part.hears_driven h))

theorem answerRequest_set (p : Part) : answerRequest [0] p = ({ p with aff.request := true } : Part).ok [] := rfl

/-- CANCEL clears the mark only while EMERG is inactive (R141). -/
theorem answerRequest_cancel (p : Part) :
    answerRequest [1] p = ({ p with aff.request := p.aff.request && p.active .emerg } : Part).ok [] := by
  show (if p.active .emerg then p else { p with aff.request := false } : Part).ok [] = _
  cases p.active .emerg <;> simp

theorem answerRequest_undefined {action : Byte} (p : Part) (h : 2 ≤ action.toNat) :
    answerRequest [action] p = p.refuse .badArg := by
  unfold answerRequest
  dsimp only
  split
  next hset => omega
  next hcancel => omega
  next => rfl

/-- Settles O50: SET and CANCEL by the mark each leaves, and the refusal of another action. -/
theorem requestSetsAndCancels : Obligations.RequestSetsAndCancels := by
  unfold Obligations.RequestSetsAndCancels
  intro s tag action htag h
  refine ⟨?_, ?_, ?_, fun hundefined => ?_⟩
  · rintro rfl
    exact exec_request_taken htag h (answerRequest_set s.part)
  · rintro rfl hinactive
    exact exec_request_taken htag h (by rw [answerRequest_cancel, hinactive, Bool.and_false])
  · rintro rfl hactive
    exact exec_request_taken (mark := s.part.aff.request) htag h (by rw [answerRequest_cancel, hactive, Bool.and_true])
  · exact congrArg (fun p => Host.Outcome.next (s.withPart p))
      (Part.command_refused h htag (answerRequest_undefined s.part hundefined))

end Sys2Proof.Machine
end

section
/-! SUPPORT. The checks of RUN, STEP, CONTINUE and MOVE in their order (R135, R153, R156, R158), and the rounds that RUN
and CONTINUE start (R38, R157): the statements O26 and O24. -/

namespace Sys2Proof.Machine

/-! ### A command's next state -/

theorem next_command_refused (s : State) {kind tag : Byte} {args : List Byte} {f : List Byte → Part → Answer}
    {code : ReplyCode} (htag : tag ≠ 0) (h : s.part.hears = true) (hf : f args s.part = s.part.refuse code) :
    (Host.Outcome.next (s.withPart (s.part.command kind (tag :: args) f)) : Host.Outcome State Fault Refusal) =
      .next (s.withPart (s.part.replied ⟨kind + 0x80, tag, code, []⟩)) :=
  congrArg (fun q => Host.Outcome.next (s.withPart q)) (Part.command_refused h htag hf)

theorem next_command_taken (s : State) {q : Part} {kind tag : Byte} {args data : List Byte}
    {f : List Byte → Part → Answer} (htag : tag ≠ 0) (h : s.part.hears = true) (hf : f args s.part = q.ok data)
    (hlive : q.stepRoundLive = true) (hdriven : q.outputsDriven = true) :
    (Host.Outcome.next (s.withPart (s.part.command kind (tag :: args) f)) : Host.Outcome State Fault Refusal) =
      .next (s.withPart (q.replied ⟨kind + 0x80, tag, .ok, data⟩)) :=
  congrArg (fun q => Host.Outcome.next (s.withPart q)) (Part.command_taken h htag hf hlive hdriven)

/-! ### The checks of the engine commands -/

theorem Part.runEngine_refused {p : Part} {code : ReplyCode}
    (h : if p.engine.stepFlag = true then code = .busy
      else if p.engine.state ≠ .halted then code = .state
      else p.aff.identity = none ∧ code = .noIdentity) : p.runEngine = p.refuse code := by
  unfold Part.runEngine
  split at h
  · rename_i hstep; rw [if_pos hstep, h]
  rename_i hstep
  rw [if_neg hstep]
  split at h
  · rename_i hstate; rw [if_pos (bne_iff_ne.2 hstate), h]
  · rename_i hstate; rw [if_neg (by simpa using hstate), if_pos (by simp [h.1]), h.2]

theorem Part.stepEngine_refused {p : Part} {code : ReplyCode}
    (h : if p.engine.stepFlag = true then code = .busy
      else if p.engine.state = .running then code = .state
      else if p.engine.continuePending = true then code = .busy
      else p.aff.identity = none ∧ code = .noIdentity) : p.stepEngine = p.refuse code := by
  unfold Part.stepEngine
  split at h
  · rename_i hstep; rw [if_pos hstep, h]
  rename_i hstep
  rw [if_neg hstep]
  split at h
  · rename_i hstate; rw [if_pos (beq_iff_eq.2 hstate), h]
  rename_i hstate
  rw [if_neg (by simpa using hstate)]
  split at h
  · rename_i hpending; rw [if_pos hpending, h]
  · rename_i hpending; rw [if_neg hpending, if_pos (by simp [h.1]), h.2]

/-- CONTINUE outside a STEP round, in FROZEN with a cause (R156). -/
theorem Part.continueEngine_frozen {p : Part} {cause : FreezeCause} (hstep : p.engine.stepFlag = false)
    (h : p.engine.state = .frozen cause) :
    p.continueEngine =
      if p.engine.continuePending = true then p.refuse .busy
      else if p.aff.identity = none then p.refuse .noIdentity
      else (p.continueFrom cause).ok [] := by
  simp [Part.continueEngine, hstep, h]

theorem Part.continueEngine_refused {p : Part} {code : ReplyCode}
    (h : if p.engine.stepFlag = true then code = .busy
      else if p.engine.state = .halted ∨ p.engine.state = .running then code = .state
      else if p.engine.continuePending = true then code = .busy
      else p.aff.identity = none ∧ code = .noIdentity) : p.continueEngine = p.refuse code := by
  split at h
  · rename_i hstep; rw [Part.continueEngine, if_pos hstep, h]
  rename_i hstep
  cases hstate : p.engine.state with
  | halted => rw [if_pos (.inl hstate)] at h; simp [Part.continueEngine, hstep, hstate, h]
  | running => rw [if_pos (.inr hstate)] at h; simp [Part.continueEngine, hstep, hstate, h]
  | frozen cause =>
    rw [if_neg (by simp [hstate])] at h
    rw [Part.continueEngine_frozen (by simpa using hstep) hstate]
    split at h
    · rename_i hpending; rw [if_pos hpending, h]
    · rename_i hpending; rw [if_neg hpending, if_pos h.1, h.2]

theorem Part.moveTo_badArg {p : Part} {site : Nat} (h : siteOk site = false) : p.moveTo site = p.refuse .badArg :=
  if_pos (by simp [h])

theorem Part.not_settled_iff (p : Part) :
    p.settled = false ↔ p.aff.machine ≠ .registered ∨ p.aff.ctx.isSome = true ∨ p.aff.signingOff = true := by
  rw [← Bool.not_eq_true, Part.settled_iff, ← Option.not_isSome_iff_eq_none, ← Bool.not_eq_true]
  tauto

theorem Part.moveTo_unsettled {p : Part} {site : Nat} (hsite : siteOk site = true) (h : p.settled = false) :
    p.moveTo site = p.refuse .state := by
  simp [Part.moveTo, hsite, h]

theorem Part.moveTo_unknown {p : Part} {site : Nat} (hsite : siteOk site = true) (h : p.settled = true)
    (hr : p.record site = none) : p.moveTo site = p.refuse .notFound := by
  simp [Part.moveTo, hsite, h, hr]

/-- MOVE to a site in the table, its last two checks (R135). -/
theorem Part.moveTo_known {p : Part} {site : Nat} {r : SiteRecord} (hsite : siteOk site = true) (h : p.settled = true)
    (hr : p.record site = some r) :
    p.moveTo site =
      if p.aff.serving = some site ∨ p.coChannel r = true then p.refuse .state
      else if r.confirm = none then p.refuse .notConfirmed
      else (p.beginHandover site .host false).ok [] := by
  simp [Part.moveTo, hsite, h, hr]

/-- Settles O26: each command's chain of checks, a refusal being a reply and nothing else. -/
theorem engineAndMoveCommandsRefusedInOrder : Obligations.EngineAndMoveCommandsRefusedInOrder := by
  unfold Obligations.EngineAndMoveCommandsRefusedInOrder
  refine ⟨fun s tag code htag => ⟨fun h hcode => ?_, fun h hcode => ?_, fun h hcode => ?_⟩,
    fun s tag s1 s0 code htag h hcode => ?_⟩
  · exact next_command_refused s (kind := 0x09) (f := answerRun) htag h (Part.runEngine_refused hcode)
  · exact next_command_refused s (kind := 0x0B) (f := answerStep) htag h (Part.stepEngine_refused hcode)
  · exact next_command_refused s (kind := 0x0C) (f := answerContinue) htag h (Part.continueEngine_refused hcode)
  · suffices hf : s.part.moveTo (u16 s1 s0) = s.part.refuse code from
      next_command_refused s (kind := 0x0F) (f := answerMove) htag h hf
    split at hcode
    · rename_i hsite; rw [Part.moveTo_badArg hsite, hcode]
    rename_i hsite
    have hsite : siteOk (u16 s1 s0) = true := by simpa using hsite
    split at hcode
    · rename_i hbusy; rw [Part.moveTo_unsettled hsite (s.part.not_settled_iff.2 hbusy), hcode]
    rename_i hfree
    have hsettled : s.part.settled = true := by simpa using mt s.part.not_settled_iff.1 hfree
    split at hcode
    · rename_i hr; rw [Part.moveTo_unknown hsite hsettled hr, hcode]
    · rename_i r hr
      rw [Part.moveTo_known hsite hsettled hr]
      split at hcode
      · rename_i hown; rw [if_pos hown, hcode]
      · rename_i hown; rw [if_neg hown, if_pos hcode.1, hcode.2]

/-! ### The rounds started -/

/-- The engine set RUNNING outside a STEP round, the outputs standing (R153, R156). -/
theorem Part.startRunning_settled {p : Part} (cause : EngineCause) (hstep : p.engine.stepFlag = false)
    (hd : p.outputsDriven = true) :
    (p.startRunning cause).stepRoundLive = true ∧ (p.startRunning cause).outputsDriven = true :=
  ⟨Part.live_of_queueNotice (Part.live_of_noStep hstep), Part.driven_of_queueNotice (by exact hd)⟩

/-- The CONTINUE retry with the receiver free, AWAY with the mark set: the tune home as the engine's (R38). -/
theorem Part.askRetry_tunes {p : Part} {channel : Nat} (hfault : p.tuning.fault = true)
    (hp : p.tuning.position = .away) (hh : p.tuning.holder = none) (hc : p.servingChannel = some channel)
    (hd : p.outputsDriven = true) :
    p.askRetry =
      { p with
        tuning.op := some (freshOp p.params channel .ret .engine)
        tuning.pins := startPins p.params channel
        tuning.tuned := none
        tuning.holder := some .engine } := by
  have hretry : p.askRetry = p.startOp .engine ⟨channel, .ret⟩ := by
    simp [Part.askRetry, Part.makeRetry, hfault, hh, hc]
  have haway : p.tuning.position ≠ .home := by simp [hp]
  rw [hretry, Part.startOp_away (Part.serving_of_channel hc) (.inl haway), ← hp]
  exact Part.driveOutputs_of_driven (Part.driven_away hd haway haway rfl rfl)

/-- Settles O24: the checks passed, the rounds start at once, or the retry of `Part.askRetry_tunes` does. -/
theorem runAndContinueStartTheRounds : Obligations.RunAndContinueStartTheRounds := by
  unfold Obligations.RunAndContinueStartTheRounds
  refine ⟨fun s tag htag h hstep hstate hid => ?_, fun s tag slot htag h hstep hstate hpending hid => ?_,
    fun s tag channel htag h hstep hstate hpending hid hfault hp hh hc => ?_⟩
  · have hrun : s.part.runEngine = (s.part.startRunning .run).ok [] := by
      have hknown : s.part.aff.identity ≠ none := Option.isSome_iff_ne_none.1 hid
      simp [Part.runEngine, hstep, hstate, hknown]
    obtain ⟨hlive, hdriven⟩ := Part.startRunning_settled .run hstep (Part.hears_driven h)
    exact next_command_taken s (kind := 0x09) (f := answerRun) htag h hrun hlive hdriven
  · have hcont := Part.continueEngine_frozen hstep hstate
    rw [if_neg (by simp [hpending]), if_neg (Option.isSome_iff_ne_none.1 hid)] at hcont
    obtain ⟨hlive, hdriven⟩ := Part.startRunning_settled .cont hstep (Part.hears_driven h)
    exact next_command_taken s (kind := 0x0C) (f := answerContinue) htag h hcont hlive hdriven
  · have hcont := Part.continueEngine_frozen hstep hstate
    have hretry := Part.askRetry_tunes (p := { s.part with engine.continuePending := true }) hfault hp hh hc
      (Part.hears_driven h)
    rw [if_neg (by simp [hpending]), if_neg (Option.isSome_iff_ne_none.1 hid), Part.continueFrom, hretry] at hcont
    refine next_command_taken s (kind := 0x0C) (f := answerContinue) htag h hcont (Part.live_of_noStep hstep) ?_
    exact Part.driven_away (Part.hears_driven h) (by simp [hp]) (by simp [hp]) rfl rfl

end Sys2Proof.Machine
end

section
/-! SUPPORT. HALT (R154), and the end of a STEP round with nothing of its own left in flight (R159, R160): the statement
O25. -/

namespace Sys2Proof.Machine

/-! ### HALT -/

theorem Part.haltEngine_state {p : Part} (h : p.engine.state = .halted) (hstep : p.engine.stepFlag = false) :
    p.haltEngine = p.refuse .state := by
  simp [Part.haltEngine, h, hstep]

/-- A HALT that finds rounds, a freeze or a STEP round to end (R154). -/
theorem Part.haltEngine_taken {p : Part} (h : p.engine.state ≠ .halted ∨ p.engine.stepFlag = true) :
    p.haltEngine =
      (({ p with
        engine.state := .halted, engine.stepFlag := false, engine.continuePending := false, engine.roundTimer := none,
        sched.work := none } : Part).queueNotice (.engineState .halted .halt none)).ok [] := by
  have hno : ¬ (p.engine.state == .halted && !p.engine.stepFlag) = true := by
    rcases h with h | h <;> simp [h]
  rw [Part.haltEngine, if_neg hno]
  rfl

/-! ### The end of a STEP round -/

/-- The part whose STEP round has ended: HALTED, with no round work, and ENGINE_STATE queued (R159). -/
def Part.stepEnded (p : Part) : Part :=
  ({ p with engine.state := .halted, engine.stepFlag := false, sched.work := none } : Part).queueNotice
    (.engineState .halted .stepDone none)

@[simp] theorem Part.stepEnded_blocks (p : Part) :
    p.stepEnded.engine = { p.engine with state := .halted, stepFlag := false } ∧
      p.stepEnded.sched = { p.sched with work := none } ∧ p.stepEnded.tuning = p.tuning ∧
      p.stepEnded.link.reply = p.link.reply := by
  simp [Part.stepEnded]

/-- A STEP round with no work left and no handover of its own in flight is over (R159). -/
theorem Part.endStepRound_ends {p : Part} (hstep : p.engine.stepFlag = true) (hwork : p.sched.work = none)
    (hctx : (p.aff.ctx.map Context.inStep).getD false = false) : p.endStepRound = p.stepEnded := by
  have hends : p.endStepRound =
      ({ p with engine.stepFlag := false, engine.state := .halted } : Part).engineNotice .stepDone none :=
    if_pos (by simp [hstep, hwork, hctx])
  rw [hends, Part.stepEnded, ← hwork]
  rfl

/-- The step that leaves a STEP round nothing ends it (R159, log entry 10). -/
theorem Part.finish_ends {p : Part} (hstep : p.engine.stepFlag = true) (hwork : p.sched.work = none)
    (hctx : (p.aff.ctx.map Context.inStep).getD false = false) (hdriven : p.outputsDriven = true) :
    p.finish = p.stepEnded.startSending := by
  rw [Part.finish, Part.endStepRound_ends hstep hwork hctx]
  have hended : p.stepEnded.outputsDriven = true := Part.driven_of_queueNotice (by exact hdriven)
  refine Part.driveOutputs_of_driven ((Part.outputsDriven_congr ?_ ?_ ?_).trans hended) <;> simp

/-! ### A STEP round set aside -/

/-- Outside REGISTERED, or with a handover in flight, a round judges nothing (R82). -/
theorem Part.evaluate_passes {p : Part}
    (h : p.aff.serving = none ∨ p.aff.ctx.isSome = true ∨ p.aff.machine ≠ .registered) : p.evaluate = p := by
  unfold Part.evaluate
  split
  · rfl
  · rename_i site hs
    exact if_pos (by rcases h with h | h | h <;> simp_all)

/-- A round that judges nothing and whose request is set aside moves the counters alone (R42, R77). -/
theorem Part.round_setAside {p : Part}
    (h : p.aff.serving = none ∨ p.aff.ctx.isSome = true ∨ p.aff.machine ≠ .registered)
    (hbusy : p.sched.burst.isSome = true ∨ p.homeGap = true) : p.round = p.countRound.skipGaps := by
  have hpasses : p.countRound.evaluate = p.countRound := Part.evaluate_passes h
  have hserving : p.aff.serving = none ∨ p.countRound.evaluate.aff.serving.isSome = true := by
    rw [hpasses, ← Option.not_isSome_iff_eq_none]
    exact (em _).symm
  rw [Part.round_requests hserving, hpasses, Part.requestWork_busy (by exact hbusy)]

/-- A STEP that passes its checks (R158). -/
theorem Part.stepEngine_taken {p : Part} (hstep : p.engine.stepFlag = false) (hstate : p.engine.state ≠ .running)
    (hpending : p.engine.continuePending = false) (hid : p.aff.identity.isSome = true) :
    p.stepEngine = p.beginStep.round.ok [] := by
  simp [Part.stepEngine, hstep, hstate, hpending, Option.isSome_iff_ne_none.1 hid]

/-- The reply and the end of a STEP round, with the transmitter busy, leave the notice of the round's end behind (R185,
R191). -/
theorem Part.stepEnded_queues {p q : Part} (hl : q.link.notices = p.link.notices) (ht : q.link.tx = p.link.tx)
    (he : q.link.enabled = p.link.enabled) (hlost : q.link.lost = p.link.lost) :
    p.Queues (.engineState .halted .stepDone none) q.stepEnded.startSending := by
  intro hbusy hroom hon
  have hended : q.stepEnded =
      { q with
        engine.state := .halted
        engine.stepFlag := false
        sched.work := none
        link.notices := q.link.notices ++ [⟨.engineState .halted .stepDone none, q.link.lost⟩]
        link.lost := false } :=
    Part.queueNotice_room (by simpa only [he] using hon) (by simpa only [hl] using hroom)
  rw [Part.startSending_of_fed (by simp [hended, Part.transmitterFed, ht, hbusy]), hended]
  exact ⟨by simp only [hl, hlost], rfl⟩

/-- The part of a STEP round that is set aside as it begins, with its reply placed, before the end of the step. -/
def Part.steppedAside (r : Reply) (p : Part) : Part :=
  { p.beginStep.countRound.skipGaps with link.buffer := none, link.reply := some r }

@[simp] theorem Part.steppedAside_blocks (r : Reply) (p : Part) :
    (p.steppedAside r).sched.burst = p.sched.burst ∧ (p.steppedAside r).tuning = p.tuning ∧
      (p.steppedAside r).link.reply = some r := ⟨rfl, rfl, rfl⟩

/-- A STEP whose request a burst or a HOME gap sets aside, with no handover to begin, ends with its own command (R42,
R159). -/
theorem exec_step_setAside {s : State} {tag : Byte} (htag : tag ≠ 0) (h : s.part.hears = true)
    (hstep : s.part.engine.stepFlag = false) (hstate : s.part.engine.state ≠ .running)
    (hpending : s.part.engine.continuePending = false) (hid : s.part.aff.identity.isSome = true)
    (hbusy : s.part.sched.burst.isSome = true ∨ s.part.homeGap = true)
    (haway : s.part.aff.serving = none ∨ s.part.aff.ctx.isSome = true ∨ s.part.aff.machine ≠ .registered) :
    exec (.step [tag]) s =
      .next (s.withPart (s.part.steppedAside ⟨0x8B, tag, .ok, []⟩).stepEnded.startSending) := by
  have hround : s.part.beginStep.round = s.part.beginStep.countRound.skipGaps := by
    refine Part.round_setAside (by simpa [Part.beginStep] using haway) ?_
    rw [s.part.begins_step.burst, s.part.begins_step.homeGap]
    exact hbusy
  have hanswer : answerStep [] s.part = s.part.beginStep.countRound.skipGaps.ok [] :=
    (Part.stepEngine_taken hstep hstate hpending hid).trans (congrArg (Part.ok · []) hround)
  have hctx : ((s.part.beginStep.aff.ctx).map Context.inStep).getD false = false := by
    cases hc : s.part.aff.ctx <;> simp [Part.beginStep, hc]
  have hdriven := Part.hears_driven h
  show Host.Outcome.next (s.withPart (s.part.command 0x0B [tag] answerStep)) = _
  rw [Part.command_of_hears h htag, hanswer]
  exact congrArg (fun q => Host.Outcome.next (s.withPart q))
    (Part.finish_ends (p := s.part.steppedAside ⟨0x8B, tag, .ok, []⟩) rfl rfl hctx hdriven)

/-! ### The last gap of a STEP round -/

/-- The last gap of a HOME round ends: no gap is left to the round, whose work has ended with it (R45, R57). -/
theorem Part.endHomeGap_last {p : Part} {w : RoundWork} (hh : p.tuning.holder = some .scheduler)
    (ho : p.tuning.op = none) (hw : p.tuning.waitSched = none) (ha : p.tuning.waitAff = none)
    (hr : p.tuning.retryWaiting = false) (hctx : p.aff.ctx = none) (hdue : p.aff.deregisterDue = false)
    (hb : p.sched.burst = none) (hwork : p.sched.work = some w) (hk : w.kind = .home) (hleft : w.gapsLeft = 0)
    (hv : w.visited ≠ []) :
    p.endHomeGap = { p with sched.gap := none, sched.work := none, tuning.holder := none } := by
  let q : Part := { p with sched.gap := none, tuning.holder := none }
  have hreport : q.gapEndedReport = q := by simp [q, Part.gapEndedReport, hctx, hdue]
  have hstops : q.considerHomeGap = q.passFirstGap.skipGaps :=
    Part.considerHomeGap_stops hwork hk hb rfl (.inl (by simp [Part.GapAllowed, hleft]))
  have hpass : q.passFirstGap = q := by simp [q, Part.passFirstGap, hwork, hv]
  rw [Part.endHomeGap, Part.releaseReceiver_free (by exact hh) (by exact ho) (by exact hw) (by exact ha) (by exact hr)]
  refine (congrArg Part.considerHomeGap hreport).trans ?_
  rw [hstops, hpass]
  rfl

/-- The tune home of a STEP round's last gap has ended READY (R31, R57, R159). -/
theorem Part.opReady_lastGap {p : Part} {op : TuneOp} {home : Nat} {g : Gap} {w : RoundWork}
    (howner : op.owner = .scheduler) (hc : p.servingChannel = some home) (hch : op.channel = home)
    (hm : p.aff.machine = .registered) (hd : p.outputsDriven = true) (hg : p.sched.gap = some g)
    (hhome : g.phase = .tuneHome) (hh : p.tuning.holder = some .scheduler) (hw : p.tuning.waitSched = none)
    (ha : p.tuning.waitAff = none) (hr : p.tuning.retryWaiting = false) (hctx : p.aff.ctx = none)
    (hdue : p.aff.deregisterDue = false) (hb : p.sched.burst = none) (hwork : p.sched.work = some w)
    (hk : w.kind = .home) (hleft : w.gapsLeft = 0) (hv : w.visited ≠ []) :
    p.opReady op =
      { p.tunedHome home with
        lines := { p.lines.withMute false with txinh := false }
        sched.gap := none
        sched.work := none
        tuning.holder := none } := by
  have htxinh : ({ p.lines.withMute false with txinh := false } : Lines) = p.lines.withMute false := by
    rw [← Part.txinh_atRest hd (by rw [hm]; rfl)]
    rfl
  rw [Part.opReady, Part.endReady_home hc hch, Part.tunedHome_driven home hm (Part.serving_of_channel hc) hd, howner,
    htxinh]
  let q : Part := { p.tunedHome home with lines := p.lines.withMute false }
  exact (Part.schedReady_ends (p := q) hg hhome).trans
    (Part.endHomeGap_last (p := q) hh rfl hw ha hr hctx hdue hb hwork hk hleft hv)

/-- Settles O25: HALT by its two cases; a STEP round, wherever its last work ends, by `Part.finish_ends`. -/
theorem haltAndStepDoneStopTheRounds : Obligations.HaltAndStepDoneStopTheRounds := by
  unfold Obligations.HaltAndStepDoneStopTheRounds
  refine ⟨fun s tag htag h => ⟨fun hworks => ?_, fun hstate hstep => ?_⟩,
    fun s tag htag h hstep hstate hpending hid hbusy haway => ?_,
    fun s op home hs hop hphase hc hch hstep hws hwa hr => ?_⟩
  · have hdriven := Part.hears_driven h
    exact next_command_taken s (kind := 0x0A) (f := answerHalt) htag h (Part.haltEngine_taken hworks)
      (Part.live_of_queueNotice (Part.live_of_noStep rfl)) (Part.driven_of_queueNotice (by exact hdriven))
  · exact next_command_refused s (kind := 0x0A) (f := answerHalt) htag h (Part.haltEngine_state hstate hstep)
  · refine ⟨_, exec_step_setAside htag h hstep hstate hpending hid hbusy haway, ?_⟩
    have hqueues := Part.stepEnded_queues (p := s.part) (q := s.part.steppedAside ⟨0x8B, tag, .ok, []⟩) rfl rfl rfl rfl
    exact ⟨by simp, by simp, by simp, by simp, by simp, by simp, hqueues⟩
  · intro ended
    have hdriven := Part.driven_of_settled hs
    refine ⟨fun g w howner hh hg hhome hm hctx hdue hb hwork hk hleft hv => ?_,
      fun ctx k howner hh hm hctx _ hk hlost hwork => ?_⟩
    · rw [(exec_opReady hop).1 hphase, Part.opReady_lastGap howner hc hch hm hdriven hg hhome hh hws hwa hr hctx hdue hb
        hwork hk hleft hv]
      refine congrArg (fun q => Host.Outcome.next (s.withPart q)) (Part.finish_ends hstep rfl
        (by simp [Part.tunedHome, hctx]) ?_)
      simp [Part.outputsDriven, Part.tunedHome, Lines.withMute, hm, HoState.atRest, Part.serving_of_channel hc]
    · have hmute : (!((s.part.tunedHome home).tuning.position == .home && s.part.aff.serving.isSome)) = false := by
        simp [Part.tunedHome, Part.serving_of_channel hc]
      have hready : s.part.opReady op = (s.part.tunedHome home).backHome k false :=
        (Part.opReady_returns howner hm hc hch hdriven).trans (Part.endReturn_eq ⟨hh, rfl, hws, hwa, hr⟩ hk hmute)
      have htimer : (if s.part.sup.state = .lost then s.part.sup.timer else some (intervalMs k)) =
          some (250 * 2 ^ k) := if_neg hlost
      rw [(exec_opReady hop).1 hphase, hready,
        Part.finish_ends (by exact hstep) (by exact hwork) rfl (Part.backHome_driven k hmute)]
      simp only [ended, ← htimer]
      rfl

end Sys2Proof.Machine
end

section
/-! SUPPORT. The watches: their slots set and cleared (R162), and the answers of the two slots to a write (R155, R163 to
R165): the statement O28. -/

namespace Sys2Proof.Machine

/-! ### The slots -/

/-- WATCH SET and WATCH CLEAR name no slot above 1 (R162). -/
theorem Part.setWatch_badArg {p : Part} {slot : Nat} (watch : Option Watch) (h : 2 ≤ slot) :
    p.setWatch slot watch = p.refuse .badArg := by
  obtain ⟨n, rfl⟩ := Nat.exists_eq_add_of_le' h
  rfl

theorem watchModeOfCode_none {code : Nat} (h : 2 < code) : watchModeOfCode code = none := by
  obtain ⟨n, rfl⟩ := Nat.exists_eq_add_of_le' h
  rfl

theorem watchSourceOfCode_none {code : Nat} (h : 3 < code) : watchSourceOfCode code = none := by
  obtain ⟨n, rfl⟩ := Nat.exists_eq_add_of_le' h
  rfl

/-- WATCH SET with its fields in range (R162). -/
theorem answerWatchSet_defined {slot s1 s0 mode source : Byte} {m : WatchMode} {src : Option WriteSource} (p : Part)
    (hm : watchModeOfCode mode.toNat = some m) (hsrc : watchSourceOfCode source.toNat = some src)
    (hsite : u16 s1 s0 ≤ 4095) :
    answerWatchSet [slot, s1, s0, mode, source] p = p.setWatch slot.toNat (some ⟨u16 s1 s0, m, src⟩) := by
  simp only [answerWatchSet, hm, hsrc, hsite, if_true]

/-- WATCH SET with a field out of its range (R162). -/
theorem answerWatchSet_badArg {slot s1 s0 mode source : Byte} (p : Part)
    (h : 2 ≤ slot.toNat ∨ 4095 < u16 s1 s0 ∨ 2 < mode.toNat ∨ 3 < source.toNat) :
    answerWatchSet [slot, s1, s0, mode, source] p = p.refuse .badArg := by
  unfold answerWatchSet
  dsimp only
  split
  · rename_i m src hm hsrc
    split
    · rename_i hsite
      rcases h with h | h | h | h
      · exact Part.setWatch_badArg _ h
      · exact absurd hsite (Nat.not_le.2 h)
      · simp [watchModeOfCode_none h] at hm
      · simp [watchSourceOfCode_none h] at hsrc
    · rfl
  · rfl

/-! ### One slot's answer to a write -/

theorem Watch.matchesWrite_iff (w : Watch) (site : Nat) (source : WriteSource) :
    w.matchesWrite site source = true ↔ w.Meets site source := by
  unfold Watch.matchesWrite Watch.Meets
  cases w.mode <;> simp

/-- A slot that holds no watch of this write does nothing (R164). -/
theorem Part.offerSlot_unmet {watch : Option Watch} {site : Nat} {source : WriteSource} (slot : Nat) (p : Part)
    (h : ∀ w, watch = some w → ¬ w.Meets site source) : p.offerSlot slot watch site source = p := by
  cases watch with
  | none => rfl
  | some w => exact if_neg (mt (w.matchesWrite_iff site source).1 (h w rfl))

/-- A slot whose watch meets the write reports it, and a HOLD_ON_CHANGE freezes the engine (R164, R165). -/
theorem Part.offerSlot_met {p : Part} {w : Watch} {site : Nat} {source : WriteSource} {level : Option Level} (slot : Nat)
    (hw : w.Meets site source) (hlevel : (p.record site).bind SiteRecord.level = level) :
    p.offerSlot slot (some w) site source =
      if w.mode = .holdOnChange then (p.queueNotice (.watchReport slot site source level)).freezeWatch slot
      else p.queueNotice (.watchReport slot site source level) := by
  simp only [Part.offerSlot, (w.matchesWrite_iff site source).2 hw, hlevel, if_true, beq_iff_eq]

/-- A watch freezes the engine anew unless it is FROZEN by a tune fault or by that watch; then a STEP round ends alone
(R155, R160). -/
theorem Part.freezeWatch_eq (slot : Nat) (p : Part) :
    p.freezeWatch slot =
      if p.engine.state = .frozen .tune ∨ p.engine.state = .frozen (.watch slot) then p.endRound
      else p.heldBy slot := by
  unfold Part.freezeWatch
  cases p.engine.state with
  | halted => rfl
  | running => rfl
  | frozen cause =>
    cases cause with
    | tune => rfl
    | watch other =>
      by_cases h : other = slot
      · exact (if_pos h).trans (if_pos (by simp [h])).symm
      · exact (if_neg h).trans (if_neg (by simp [h])).symm

theorem Part.offerSlot_answeredBy {p : Part} {w : Watch} {site slot : Nat} {source : WriteSource}
    {level : Option Level} (hw : w.Meets site source) (hlevel : (p.record site).bind SiteRecord.level = level)
    (htune : p.engine.state ≠ .frozen .tune) (hslot : p.engine.state ≠ .frozen (.watch slot)) :
    p.offerSlot slot (some w) site source = p.answeredBy slot w site source level := by
  have hstate : (p.queueNotice (.watchReport slot site source level)).engine.state = p.engine.state := by simp
  rw [Part.offerSlot_met slot hw hlevel]
  unfold Part.answeredBy
  cases hm : w.mode with
  | holdOnChange => exact (Part.freezeWatch_eq _ _).trans (if_neg (by simp [htune, hslot]))
  | report => rfl
  | holdOnSelect => rfl

/-- An answer leaves the records as they are. -/
theorem Part.answeredBy_table (slot : Nat) (w : Watch) (site : Nat) (source : WriteSource) (level : Option Level)
    (p : Part) : (p.answeredBy slot w site source level).table = p.table := by
  unfold Part.answeredBy
  cases w.mode <;> simp [Part.heldBy]

/-- An answer leaves the engine's state, or the freeze by its own slot (R155). -/
theorem Part.answeredBy_state (slot : Nat) (w : Watch) (site : Nat) (source : WriteSource) (level : Option Level)
    (p : Part) :
    (p.answeredBy slot w site source level).engine.state = p.engine.state ∨
      (p.answeredBy slot w site source level).engine.state = .frozen (.watch slot) := by
  unfold Part.answeredBy
  cases w.mode <;> simp [Part.heldBy]

/-! ### Both slots' answers -/

/-- What both slots make of a write, case by case (R163 to R165). -/
theorem Part.answers_of_offerWrite {p written : Part} {site : Nat} {source : WriteSource} {level : Option Level}
    {done : Part → Prop} (h0 : written.engine.watch0 = p.engine.watch0) (h1 : written.engine.watch1 = p.engine.watch1)
    (hstate : written.engine.state = .halted ∨ written.engine.state = .running)
    (hlevel : (written.record site).bind SiteRecord.level = level) (hdone : done (written.offerWrite site source)) :
    p.Answers site source level written done := by
  have hoffer : written.offerWrite site source =
      (written.offerSlot 0 p.engine.watch0 site source).offerSlot 1 p.engine.watch1 site source := by
    rw [Part.offerWrite, h0, h1]
  rw [hoffer] at hdone
  have hfree (cause : FreezeCause) : written.engine.state ≠ .frozen cause := by
    rcases hstate with h | h <;> simp [h]
  have hfirst {w : Watch} (slot : Nat) (hw : w.Meets site source) :
      written.offerSlot slot (some w) site source = written.answeredBy slot w site source level :=
    Part.offerSlot_answeredBy hw hlevel (hfree _) (hfree _)
  refine ⟨fun hn0 hn1 => ?_, fun w hw0 hw hn1 => ?_, fun w hn0 hw1 hw => ?_, fun v w hv0 hv hw1 hw => ?_⟩
  · rwa [Part.offerSlot_unmet 0 _ hn0, Part.offerSlot_unmet 1 _ hn1] at hdone
  · rwa [hw0, hfirst 0 hw, Part.offerSlot_unmet 1 _ hn1] at hdone
  · rwa [Part.offerSlot_unmet 0 _ hn0, hw1, hfirst 1 hw] at hdone
  · have hanswered : ∀ cause, cause ≠ .watch 0 →
        (written.answeredBy 0 v site source level).engine.state ≠ .frozen cause := by
      intro cause hcause
      rcases written.answeredBy_state 0 v site source level with h | h
      · rw [h]; exact hfree cause
      · rw [h]; simpa using hcause.symm
    have hlevel' : ((written.answeredBy 0 v site source level).record site).bind SiteRecord.level = level := by
      simpa only [Part.record, Part.find, Part.occupied, Part.answeredBy_table] using hlevel
    rwa [hv0, hfirst 0 hv, hw1, Part.offerSlot_answeredBy hw hlevel' (hanswered _ (by simp))
      (hanswered _ (by simp))] at hdone

/-! ### What an offered write leaves -/

/-- A freeze leaves neither round work nor a STEP round behind it (R155, R160). -/
theorem Part.freezeWatch_idle (slot : Nat) (p : Part) :
    (p.freezeWatch slot).sched.work = none ∧ (p.freezeWatch slot).stepRoundLive = true := by
  rw [Part.freezeWatch_eq]
  split
  · exact ⟨rfl, Part.live_of_noStep rfl⟩
  · exact ⟨by simp [Part.heldBy], Part.heldBy_live slot p⟩

/-- What a slot's answer comes to: nothing, a report, or a report and a freeze (R164, R165). -/
theorem Part.offerSlot_cases (slot : Nat) (watch : Option Watch) (site : Nat) (source : WriteSource) (p : Part) :
    p.offerSlot slot watch site source = p ∨
      ∃ n, p.offerSlot slot watch site source = p.queueNotice n ∨
        p.offerSlot slot watch site source = (p.queueNotice n).freezeWatch slot := by
  by_cases h : ∃ w, watch = some w ∧ w.Meets site source
  · obtain ⟨w, rfl, hw⟩ := h
    rw [Part.offerSlot_met slot hw rfl]
    split
    · exact .inr ⟨_, .inr rfl⟩
    · exact .inr ⟨_, .inl rfl⟩
  · exact .inl (Part.offerSlot_unmet slot p (by simpa using h))

/-- An offered write keeps a STEP round live, or ends it (R160). -/
theorem Part.offerSlot_live {p : Part} (slot : Nat) (watch : Option Watch) (site : Nat) (source : WriteSource)
    (h : p.stepRoundLive = true) : (p.offerSlot slot watch site source).stepRoundLive = true := by
  rcases p.offerSlot_cases slot watch site source with he | ⟨n, he | he⟩ <;> rw [he]
  · exact h
  · exact Part.live_of_queueNotice h
  · exact (Part.freezeWatch_idle slot _).2

/-- An offered write makes no round work (R160). -/
theorem Part.offerSlot_noWork {p : Part} (slot : Nat) (watch : Option Watch) (site : Nat) (source : WriteSource)
    (h : p.sched.work = none) : (p.offerSlot slot watch site source).sched.work = none := by
  rcases p.offerSlot_cases slot watch site source with he | ⟨n, he | he⟩ <;> rw [he]
  · exact h
  · simpa using h
  · exact (Part.freezeWatch_idle slot _).1

theorem Part.offerWrite_live {p : Part} (site : Nat) (source : WriteSource) (h : p.stepRoundLive = true) :
    (p.offerWrite site source).stepRoundLive = true :=
  Part.offerSlot_live 1 _ _ _ (Part.offerSlot_live 0 _ _ _ h)

theorem Part.offerWrite_noWork {p : Part} (site : Nat) (source : WriteSource) (h : p.sched.work = none) :
    (p.offerWrite site source).sched.work = none :=
  Part.offerSlot_noWork 1 _ _ _ (Part.offerSlot_noWork 0 _ _ _ h)

theorem Part.offerWrite_driven {p : Part} (site : Nat) (source : WriteSource) (h : p.outputsDriven = true) :
    (p.offerWrite site source).outputsDriven = true :=
  (Part.outputsDriven_congr (by simp) (by simp) (by simp)).trans h

/-- With the engine FROZEN by a tune fault a HOLD_ON_CHANGE ends a STEP round alone (R155, R165). -/
theorem Part.offerWrite_tuneFrozen {p : Part} {w : Watch} {site : Nat} {source : WriteSource} {level : Option Level}
    (hstate : p.engine.state = .frozen .tune) (h0 : p.engine.watch0 = some w) (h1 : p.engine.watch1 = none)
    (hw : w.Meets site source) (hm : w.mode = .holdOnChange)
    (hlevel : (p.record site).bind SiteRecord.level = level) :
    p.offerWrite site source = (p.queueNotice (.watchReport 0 site source level)).endRound := by
  rw [Part.offerWrite, h0, h1, Part.offerSlot_met 0 hw hlevel, if_pos hm, Part.freezeWatch_eq,
    if_pos (by simp [hstate])]
  rfl

/-! ### The HOST write -/

/-- The part a taken SITE PUT on the record's own channel writes, before the watches answer (R18). -/
def Part.repinned (site : Nat) (bias : Int) (p : Part) : Part :=
  { p with
    table := p.table.map (Option.map (fun x => if x.site = site then { x with origin := .pinned, bias := bias } else x)) }

theorem Part.putExisting_sameChannel {p : Part} {r : SiteRecord} {channel : Nat} (bias : Int) (h : r.channel = channel) :
    p.putExisting r channel bias = (p.repinned r.site bias).offerWrite r.site .host := by
  unfold Part.putExisting
  dsimp only
  rw [if_pos h, Part.updateRec_eq]
  rfl

/-- A change of records that keeps site IDs and levels leaves a site's level. -/
theorem Part.level_of_map {p q : Part} {f : SiteRecord → SiteRecord} {site : Nat} {r : SiteRecord}
    (hq : q.table = p.table.map (Option.map f)) (hf : ∀ r, (f r).site = r.site) (hr : p.record site = some r) :
    (q.record site).bind SiteRecord.level = (f r).level := by
  rw [Part.record_of_map hq hf, hr]
  rfl

theorem Part.repinned_level {p : Part} {site : Nat} {r : SiteRecord} (bias : Int) (hr : p.record site = some r) :
    ((p.repinned site bias).record site).bind SiteRecord.level = r.level := by
  rw [Part.level_of_map (p := p) (q := p.repinned site bias) rfl (fun x => by split <;> rfl) hr]
  split <;> rfl

/-- A SITE PUT of a known site on its own channel is answered once the watches have answered its write (R16, R18). -/
theorem exec_sitePut_sameChannel {s : State} {tag s1 s0 c1 c0 b : Byte} {r : SiteRecord} (htag : tag ≠ 0)
    (h : s.part.hears = true) (hs : siteOk (u16 s1 s0) = true) (hc : channelOk (u16 c1 c0) = true)
    (hr : s.part.record (u16 s1 s0) = some r) (hch : r.channel = u16 c1 c0) :
    exec (.sitePut [tag, s1, s0, c1, c0, b]) s =
      .next (s.withPart (((s.part.repinned r.site (clampInt (s8 b) (-40) 40)).offerWrite r.site .host).replied
        ⟨0x85, tag, if clampInt (s8 b) (-40) 40 = s8 b then .ok else .clamped,
          [signedByte (clampInt (s8 b) (-40) 40)]⟩)) := by
  have hans : answerSitePut [s1, s0, c1, c0, b] s.part = _ := Part.sitePut_known hs hc hr
  rw [if_neg (fun h => h.2 hch), if_neg (fun h => h.2 hch), Part.putExisting_sameChannel _ hch] at hans
  show Host.Outcome.next (s.withPart (s.part.command 0x05 [tag, s1, s0, c1, c0, b] answerSitePut)) = _
  rw [Part.command_of_hears h htag, hans]
  have hlive := Part.hears_live h
  have hdriven := Part.hears_driven h
  exact congrArg (fun q => Host.Outcome.next (s.withPart q))
    (Part.placeReply_eq _ (Part.offerWrite_live _ _ (by exact hlive)) (Part.offerWrite_driven _ _ (by exact hdriven)))

/-! ### The BEACON write -/

/-- A confirmation that is not held is one write of the table, offered to the watches (R7, R13). -/
theorem Part.confirmFromBeacon_eq {p : Part} {b : Beacon} {r : SiteRecord} (hs : r.site = b.site)
    (hc : r.channel = b.channel) (hh : p.confirmHeld r = false) :
    p.confirmFromBeacon r b.load = ({ p with table := p.confirmedBy b } : Part).offerWrite b.site .beacon := by
  have htable := Part.confirmFromBeacon_table hs hc hh
  rw [← htable, Part.confirmFromBeacon]
  simp only [hh, Bool.false_eq_true, if_false, Part.offerWrite_unwatched, hs]
  rfl

theorem Part.confirmedBy_level {p q : Part} {b : Beacon} {r : SiteRecord} (hq : q.table = p.confirmedBy b)
    (hr : p.record b.site = some r) : (q.record b.site).bind SiteRecord.level = r.level := by
  rw [Part.level_of_map hq (fun x => by (repeat' split) <;> rfl) hr]
  (repeat' split) <;> rfl

/-- A notice is queued alike whatever supervision says. -/
theorem Part.queueNotice_sup (n : Notice) (x : Sup) (p : Part) :
    ({ p with sup := x } : Part).queueNotice n = { p.queueNotice n with sup := x } := by
  unfold Part.queueNotice
  dsimp only
  (repeat' split) <;> rfl

theorem Part.freezeWatch_sup (slot : Nat) (x : Sup) (p : Part) :
    ({ p with sup := x } : Part).freezeWatch slot = { p.freezeWatch slot with sup := x } := by
  simp only [Part.freezeWatch_eq]
  split
  · rfl
  · exact Part.queueNotice_sup _ x { p with
      engine.state := .frozen (.watch slot), engine.stepFlag := false, engine.roundTimer := none, sched.work := none }

theorem Part.offerSlot_sup (slot : Nat) (watch : Option Watch) (site : Nat) (source : WriteSource) (x : Sup) (p : Part) :
    ({ p with sup := x } : Part).offerSlot slot watch site source =
      { p.offerSlot slot watch site source with sup := x } := by
  have hrecord : ({ p with sup := x } : Part).record site = p.record site := rfl
  unfold Part.offerSlot
  simp only [hrecord, Part.queueNotice_sup, Part.freezeWatch_sup]
  (repeat' split) <;> rfl

/-- The watches answer a write alike whatever supervision says. -/
theorem Part.offerWrite_sup (site : Nat) (source : WriteSource) (x : Sup) (p : Part) :
    ({ p with sup := x } : Part).offerWrite site source = { p.offerWrite site source with sup := x } := by
  simp only [Part.offerWrite, Part.offerSlot_sup]

/-- A serving beacon with no neighbours, in HEALTHY: the write, its answers and the reload (R7, R103, R163). -/
theorem Part.takeFrame_servingHealthy {p : Part} {b : Beacon} {r : SiteRecord} (ht : p.tuning.tuned = some b.channel)
    (hs : p.aff.serving = some b.site) (hm : p.aff.machine = .registered) (hp : p.tuning.position = .home)
    (hactive : p.sup.active = true) (hhealthy : p.sup.state = .healthy) (hr : p.record b.site = some r)
    (hc : r.channel = b.channel) (hn : b.neighbours = []) :
    p.takeFrame (.beacon b) =
      ({ p with table := p.confirmedBy b, sup := p.reloaded b.cls } : Part).offerWrite b.site .beacon := by
  obtain ⟨-, -, hsup, -⟩ := p.confirmFromBeacon_blocks r b.load
  have hheld : p.confirmHeld r = false := Part.confirmHeld_atRest r (by rw [hm]; rfl)
  rw [Part.takeFrame_servingBeacon ht hs hm hp hr hc, hn, Part.supBeacon_active _ _ (by rw [hsup]; exact hactive),
    if_pos (by rw [hsup]; exact hhealthy), Part.reloaded_confirm,
    Part.confirmFromBeacon_eq (Part.record_some hr).2 hc hheld]
  exact (Part.offerWrite_sup b.site .beacon (p.reloaded b.cls) { p with table := p.confirmedBy b }).symm

/-! ### The SCAN write -/

/-- The part a serving burst's last sample writes, before the watches answer (R43, R51, R176). -/
def Part.burstCredited (site mean : Nat) (p : Part) : Part :=
  { p with
    table := p.table.map (Option.map (fun x => if x.site = site then x.credited p.params mean else x))
    sched.burst := none
    conv.state := .idle }

theorem Part.burstDone_standing {b : Burst} (h : b.standing = true) (mean : Nat) (p : Part) :
    p.burstDone b mean = (p.burstCredited b.site mean).offerWrite b.site .scan := by
  unfold Part.burstDone
  dsimp only
  rw [if_pos h, Part.credit, Part.updateRec_eq]
  simp only [SiteRecord.credit_eq]
  rfl

theorem Part.burstCredited_level {p : Part} {site : Nat} {r : SiteRecord} (mean : Nat) (hr : p.record site = some r) :
    ((p.burstCredited site mean).record site).bind SiteRecord.level = (r.credited p.params mean).level := by
  rw [Part.level_of_map (p := p) (q := p.burstCredited site mean) rfl (fun x => by split <;> rfl) hr,
    if_pos (Part.record_some hr).2]

theorem Part.considerHomeGap_noWork {p : Part} (h : p.sched.work = none) : p.considerHomeGap = p := by
  simp only [Part.considerHomeGap, h]

/-- The last sample of a serving burst with no round work behind it: the write and its answers (R42, R43, R163). -/
theorem exec_lastSample_noWork {s : State} {b : Burst} (code : Byte) (hs : s.part.settledOutside = true)
    (hconv : s.part.conv.state = .rssi) (hwait : s.part.conv.waiting = none) (hburst : s.part.sched.burst = some b)
    (hphase : b.run.phase = .converting) (hlast : b.run.taken + 1 = b.run.count) (hstanding : b.standing = true)
    (hwork : s.part.sched.work = none) :
    exec (.rssiConversionDone code) s =
      .next (s.withPart ((s.part.burstCredited b.site
        ((b.run.sum + levelOfCode s.part.params code) / b.run.count)).offerWrite b.site .scan).startSending) := by
  rw [exec_lastSample code hconv hwait hburst hphase hlast, Part.burstDone_standing hstanding,
    Part.considerHomeGap_noWork (Part.offerWrite_noWork _ _ (by exact hwork))]
  have hlive := Part.live_of_settled hs
  have hdriven := Part.driven_of_settled hs
  exact congrArg (fun q => Host.Outcome.next (s.withPart q))
    (Part.finish_of_live (Part.offerWrite_live _ _ (by exact hlive)) (Part.offerWrite_driven _ _ (by exact hdriven)))

/-- Settles O28: the slots by `Part.setWatch`; each of the three writes is offered to the watches, whose answers
`Part.answers_of_offerWrite` gives. -/
theorem watchesAreSetAndAnswerWrites : Obligations.WatchesAreSetAndAnswerWrites := by
  unfold Obligations.WatchesAreSetAndAnswerWrites
  refine ⟨fun s tag slot s1 s0 mode source htag h => ⟨fun m src hm hsrc hsite => ?_, fun hbad => ?_⟩,
    fun s tag slot htag h => ?_,
    fun s tag s1 s0 c1 c0 b r htag h hs hc hr hch => ?_,
    fun s tag args b r hf hstate ht hs hm hp hactive hhealthy hr hc hn => ?_,
    fun s b r code hs hstate hconv hwait hburst hphase hlast hstanding hwork hr => ?_⟩
  · have hset := answerWatchSet_defined (slot := slot) s.part hm hsrc hsite
    have hlive := Part.hears_live h
    have hdriven := Part.hears_driven h
    constructor <;> rintro rfl <;>
      exact next_command_taken s (kind := 0x0D) (f := answerWatchSet) htag h hset hlive hdriven
  · exact next_command_refused s (kind := 0x0D) (f := answerWatchSet) htag h (answerWatchSet_badArg s.part hbad)
  · have hlive := Part.hears_live h
    have hdriven := Part.hears_driven h
    refine ⟨?_, ?_, fun hbad => ?_⟩
    · rintro rfl
      exact next_command_taken s (kind := 0x0E) (f := answerWatchClear) htag h rfl hlive hdriven
    · rintro rfl
      exact next_command_taken s (kind := 0x0E) (f := answerWatchClear) htag h rfl hlive hdriven
    · exact next_command_refused s (kind := 0x0E) (f := answerWatchClear) htag h (Part.setWatch_badArg none hbad)
  · intro bias written done
    have hexec : done (written.offerWrite r.site .host) := exec_sitePut_sameChannel htag h hs hc hr hch
    rw [← (Part.record_some hr).2] at hr
    have hlevel : (written.record r.site).bind SiteRecord.level = r.level := Part.repinned_level bias hr
    refine ⟨fun hstate => Part.answers_of_offerWrite rfl rfl hstate hlevel hexec, fun w hstate h0 h1 hw hm => ?_⟩
    rw [Part.offerWrite_tuneFrozen (p := written) hstate h0 h1 hw hm hlevel] at hexec
    exact hexec
  · intro reloaded
    have htake := Part.takeFrame_servingHealthy ht hs hm hp hactive hhealthy hr hc hn
    have hlive := Part.hears_live hf.heard
    have hdriven := Part.hears_driven hf.heard
    refine Part.answers_of_offerWrite rfl rfl hstate (Part.confirmedBy_level rfl hr) ?_
    exact hf.replied htake (Part.offerWrite_live _ _ (by exact hlive)) (Part.offerWrite_driven _ _ (by exact hdriven))
  · intro q mean
    exact Part.answers_of_offerWrite rfl rfl hstate (Part.burstCredited_level mean hr)
      (exec_lastSample_noWork code hs hconv hwait hburst hphase hlast hstanding hwork)

end Sys2Proof.Machine
end

section
/-! SUPPORT. INPUT_EDGE and LINES READ (R168, R173, R174, R178): the statements O51 and O54. -/

namespace Sys2Proof.Machine

/-! ### An edge (R168) -/

theorem Part.setInput_setInput (i : Input) (x y : InputLine) (p : Part) :
    (p.setInput i x).setInput i y = p.setInput i y := by cases i <;> rfl

@[simp] theorem Part.setInput_sensed (i j : Input) (x : InputLine) (p : Part) :
    (p.setInput i x).sensed j = p.sensed j := by
  simp only [Part.sensed, Part.setInput_lines, Lines.set_battMode]

theorem Part.sensed_of {p : Part} {i : Input} (h : i ≠ .batt ∨ p.lines.battMode = .digital) : p.sensed i = true := by
  rcases h with h | h <;> simp [Part.sensed, h]

/-- BATT in ANALOG mode takes its raw level alone (R174). -/
theorem Part.edge_unsensed {p : Part} {i : Input} (level : Bool) (h : p.sensed i = false) :
    p.edge i level = p.setInput i { p.lines.get i with raw := level } := by
  simp only [Part.edge, Part.setInput_sensed, h, Bool.not_false, if_true]

/-- A level that agrees with the debounced one stops the debounce timer (R168). -/
theorem Part.edge_agrees {p : Part} {i : Input} {level : Bool} (hs : p.sensed i = true)
    (h : (p.lines.get i).debounced = some level) :
    p.edge i level = p.setInput i { p.lines.get i with raw := level, timer := none } := by
  simp only [Part.edge, Part.setInput_sensed, hs, h, Bool.not_true, Bool.false_eq_true, if_false, if_true,
    Part.setInput_setInput]

/-- A level that differs from the debounced one starts the debounce (R168). -/
theorem Part.edge_differs {p : Part} {i : Input} {level : Bool} (hs : p.sensed i = true)
    (h : (p.lines.get i).debounced ≠ some level) :
    p.edge i level = (p.setInput i { p.lines.get i with raw := level }).startDebounce i := by
  simp only [Part.edge, Part.setInput_sensed, hs, h, Bool.not_true, Bool.false_eq_true, if_false]

/-! ### The debounce started (R168, R178) -/

theorem Part.startDebounce_timed {p : Part} (i : Input) (h : p.params.debounceMs ≠ 0) :
    p.startDebounce i = p.setInput i { p.lines.get i with timer := some p.params.debounceMs } := by
  simp [Part.startDebounce, h]

/-- DEBOUNCE_MS at 0 does not reach a timer that runs (R178). -/
theorem Part.startDebounce_running {p : Part} {i : Input} (h : p.params.debounceMs = 0)
    (ht : (p.lines.get i).timer.isSome = true) : p.startDebounce i = p := by
  have hrunning : (p.lines.get i).timer.isNone = false := by simpa [Option.isSome_iff_ne_none] using ht
  simp [Part.startDebounce, h, hrunning]

/-- With DEBOUNCE_MS at 0 and no timer running the level is taken at once (R168). -/
theorem Part.startDebounce_atOnce {p : Part} {i : Input} (h : p.params.debounceMs = 0)
    (ht : (p.lines.get i).timer = none) : p.startDebounce i = p.takeLevel i := by
  simp [Part.startDebounce, h, ht]

/-- The level taken does not depend on what the debounce timer had left to run. -/
theorem Part.takeLevel_anyTimer (p : Part) (i : Input) (x : InputLine) (timer : Option Nat) :
    (p.setInput i { x with timer := timer }).takeLevel i = (p.setInput i x).takeLevel i := by
  simp only [Part.takeLevel, Part.setInput_lines, Lines.get_set_self, Part.setInput_setInput, InputLine.active]

/-! ### The statements -/

theorem exec_inputEdge {s : State} {i : Input} {level : Bool} {q : Part} (h : (s.part.lines.get i).raw ≠ level)
    (hq : s.part.edge i level = q) : exec (.inputEdge i level) s = .next (s.withPart q.finish) := by
  rw [← hq]
  exact if_neg h

/-- An edge that leaves only another line of its input owes nothing at the end of its step. -/
theorem exec_inputEdge_set {s : State} {i : Input} {level : Bool} {y : InputLine} (hs : s.part.settledOutside = true)
    (h : (s.part.lines.get i).raw ≠ level) (hq : s.part.edge i level = s.part.setInput i y) :
    exec (.inputEdge i level) s = .next (s.withPart (s.part.setInput i y)) := by
  rw [exec_inputEdge h hq, Part.finish_of_settled (Part.setInput_settled i y hs)]

/-- Settles O51: the edge by whether its level agrees with the debounced one, the debounce by DEBOUNCE_MS and the
timer. -/
theorem edgesStartTheDebounce : Obligations.EdgesStartTheDebounce := by
  unfold Obligations.EdgesStartTheDebounce
  intro s i level hs x put
  refine ⟨fun hsame => if_pos hsame, fun hraw hbatt hmode => ?_, fun hraw hlogic => ?_⟩
  · have hunsensed : s.part.sensed i = false := by simp [Part.sensed, hbatt, hmode]
    exact exec_inputEdge_set hs hraw (Part.edge_unsensed level hunsensed)
  · have hsensed := Part.sensed_of hlogic
    let taken : Part := s.part.setInput i { x with raw := level }
    have hline : taken.lines.get i = { x with raw := level } := Lines.get_set_self _ _ _
    refine ⟨fun hagrees => ?_, fun hdiffers hms => ?_, fun hdiffers hms ht => ?_, fun hdiffers hms ht n => ?_⟩
    · exact exec_inputEdge_set hs hraw (Part.edge_agrees hsensed hagrees)
    · refine exec_inputEdge_set hs hraw ((Part.edge_differs hsensed hdiffers).trans ?_)
      rw [Part.startDebounce_timed (p := taken) i hms, hline]
      exact Part.setInput_setInput _ _ _ _
    · refine exec_inputEdge_set hs hraw ((Part.edge_differs hsensed hdiffers).trans ?_)
      exact Part.startDebounce_running (p := taken) hms (by rw [hline]; exact ht)
    · have hnow : s.part.edge i level = taken.takeLevel i :=
        (Part.edge_differs hsensed hdiffers).trans
          (Part.startDebounce_atOnce (p := taken) hms (by rw [hline]; exact ht))
      have hlater : (put { x with raw := level, timer := some n }).part.takeLevel i = taken.takeLevel i :=
        Part.takeLevel_anyTimer s.part i { x with raw := level } (some n)
      have hruns : ((put { x with raw := level, timer := some n }).part.lines.get i).timer.isSome = true := by
        simp [put]
      rw [exec_inputEdge hraw hnow, exec_debounceExpiry hruns hlater, State.withPart_withPart]

/-- Settles O54: the two bytes are the active states and the marks bit by bit, and the references are taken. -/
theorem linesReadTakesReferences : Obligations.LinesReadTakesReferences := by
  unfold Obligations.LinesReadTakesReferences
  intro s tag htag h
  refine ⟨flagByte s.part.lines.levels, flagByte s.part.lines.marks,
    fun n hn => ⟨flagByte_getLsbD _ hn, flagByte_getLsbD _ hn⟩, ?_⟩
  have hlive := Part.hears_live h
  have hdriven := Part.hears_driven h
  exact next_command_taken s (q := s.part.rereadLines) (kind := 0x13) (f := answerLinesRead) htag h rfl hlive hdriven

end Sys2Proof.Machine
end

section
/-! SUPPORT. The battery's request for the converter and the judgement of its code (R174 to R176): the statement O55. -/

namespace Sys2Proof.Machine

/-! ### The converter -/

/-- With no request waiting the converter that is given up becomes idle (R176). -/
theorem Part.releaseConverter_idle {p : Part} (h : p.conv.waiting = none) :
    p.releaseConverter = { p with conv.state := .idle } := by
  simp only [Part.releaseConverter, h]

/-- A busy converter with no request waiting has the battery wait for it (R176). -/
theorem Part.askBattery_busy {p : Part} (h : p.conv.state ≠ .idle) (hw : p.conv.waiting = none) :
    p.askBattery = { p with conv.waiting := some .battery } := by
  simp only [Part.askBattery, if_neg h, Part.waitConverter, hw]

/-- A notice that is queued and a converter that is given up come to the same in either order. -/
theorem Part.queueNotice_conv (p : Part) (n : Notice) (state : ConvState) :
    { p.queueNotice n with conv.state := state } = ({ p with conv.state := state } : Part).queueNotice n := by
  unfold Part.queueNotice
  dsimp only
  split_ifs <;> rfl

/-! ### The judgement (R174) -/

theorem Part.judgeCode_normal {p : Part} (code : Byte) (h : p.lines.battery = .normal) :
    p.judgeCode code = p.setBattery (if code.toNat < p.params.battLow then .low else .normal) (some code) := by
  simp only [Part.judgeCode, h]

theorem Part.judgeCode_low {p : Part} (code : Byte) (h : p.lines.battery = .low) :
    p.judgeCode code =
      p.setBattery (if p.params.battLow + p.params.battHyst ≤ code.toNat then .normal else .low) (some code) := by
  simp only [Part.judgeCode, h]

/-- A conversion that leaves the condition, or is not judged, gives up the converter alone (R175). -/
theorem exec_batteryConversionDone_same {s : State} {judged : Bool} {code : Byte} (hs : s.part.settledOutside = true)
    (hw : s.part.conv.waiting = none) (hc : s.part.conv.state = .battery judged)
    (hsame : judged = true → s.part.judgeCode code = s.part) :
    exec (.batteryConversionDone code) s = .next (s.withPart { s.part with conv.state := .idle }) := by
  have hdone : s.part.batteryDone judged code = { s.part with conv.state := .idle } := by
    rw [← Part.releaseConverter_idle hw, Part.batteryDone]
    split
    next hjudged => rw [hsame hjudged]
    next => rfl
  simp only [exec, execBatteryConversionDone, hc, hdone]
  rw [Part.finish_of_settled (by exact hs)]

/-- A conversion that changes the condition queues BATTERY and gives up the converter (R174). -/
theorem exec_batteryConversionDone_changed {s : State} {code : Byte} {condition : BattCondition}
    (hs : s.part.settledOutside = true) (hw : s.part.conv.waiting = none) (hc : s.part.conv.state = .battery true)
    (hjudge : s.part.judgeCode code = s.part.setBattery condition (some code))
    (hchanged : s.part.lines.battery ≠ condition) :
    exec (.batteryConversionDone code) s =
      .next (s.withPart (({ s.part with conv.state := .idle, lines.battery := condition } : Part).queueNotice
        (.battery condition s.part.lines.battMode (some code))).startSending) := by
  have hlive := Part.live_of_settled hs
  have hdriven := Part.driven_of_settled hs
  have hwaiting : (s.part.judgeCode code).conv.waiting = none := by
    rw [hjudge, Part.setBattery_changed _ hchanged]
    simpa using hw
  have hdone : s.part.batteryDone true code =
      ({ s.part with conv.state := .idle, lines.battery := condition } : Part).queueNotice
        (.battery condition s.part.lines.battMode (some code)) := by
    rw [Part.batteryDone, if_pos rfl, Part.releaseConverter_idle hwaiting, hjudge, Part.setBattery_changed _ hchanged]
    exact Part.queueNotice_conv { s.part with lines.battery := condition } _ .idle
  simp only [exec, execBatteryConversionDone, hc, hdone]
  rw [Part.finish_of_live (Part.live_of_queueNotice (by exact hlive)) (Part.driven_of_queueNotice (by exact hdriven))]

/-! ### The statement -/

/-- Settles O55: the request by the converter's state, the code by which of its two thresholds the condition has. -/
theorem batteryIsConvertedAndJudged : Obligations.BatteryIsConvertedAndJudged := by
  unfold Obligations.BatteryIsConvertedAndJudged
  intro s code hs
  refine ⟨fun ht => ?_, fun hw hc => ⟨fun hnormal hcode => ?_, fun hnormal hcode => ?_, fun hlow hcode => ?_,
    fun hlow hcode => ?_⟩, fun hw hc => ?_⟩
  · have hasks : exec .batteryTimerExpiry s =
        .next (s.withPart ({ s.part with lines.battTimer := none } : Part).askBattery) := if_pos ht
    rw [hasks]
    refine ⟨fun hidle => ?_, fun hbusy hw => ?_⟩
    · rw [Part.askBattery, if_pos (by exact hidle)]
      rfl
    · rw [Part.askBattery_busy (by exact hbusy) (by exact hw)]
  · refine exec_batteryConversionDone_same hs hw hc (fun _ => ?_)
    rw [Part.judgeCode_normal code hnormal, if_neg (by omega), Part.setBattery_same _ hnormal]
  · refine exec_batteryConversionDone_changed hs hw hc ?_ (by simp [hnormal])
    rw [Part.judgeCode_normal code hnormal, if_pos hcode]
  · refine exec_batteryConversionDone_same hs hw hc (fun _ => ?_)
    rw [Part.judgeCode_low code hlow, if_neg (by omega), Part.setBattery_same _ hlow]
  · refine exec_batteryConversionDone_changed hs hw hc ?_ (by simp [hlow])
    rw [Part.judgeCode_low code hlow, if_pos hcode]
  · exact exec_batteryConversionDone_same hs hw hc nofun

end Sys2Proof.Machine
end

section
/-! SUPPORT. LINES SET (R169, R171, R175): its configuration, and what the changes that follow it leave of the inputs
and the service request mark. The statement O53. -/

namespace Sys2Proof.Machine

/-! ### What the changes leave alone -/

/-- The settings, the pins, the debounced level of EMERG and the service request mark stand. -/
structure Part.InputsStand (p q : Part) : Prop where
  settings : p.SameSettings q
  raw : ∀ i, (q.lines.get i).raw = (p.lines.get i).raw
  emerg : q.lines.emerg.debounced = p.lines.emerg.debounced
  request : q.aff.request = p.aff.request

theorem Part.InputsStand.refl (p : Part) : p.InputsStand p := ⟨.refl p, fun _ => rfl, rfl, rfl⟩

theorem Part.InputsStand.trans {p q r : Part} (hpq : p.InputsStand q) (hqr : q.InputsStand r) : p.InputsStand r where
  settings := hpq.settings.trans hqr.settings
  raw i := (hqr.raw i).trans (hpq.raw i)
  emerg := hqr.emerg.trans hpq.emerg
  request := hqr.request.trans hpq.request

/-- EMERG's active state is that of its polarity and its debounced level (R169). -/
theorem Part.InputsStand.emergActive {p q : Part} (h : p.InputsStand q) : q.active .emerg = p.active .emerg := by
  have hpolarity : q.lines.emerg.polarity = p.lines.emerg.polarity := (h.settings.inputs .emerg).1
  simp only [Part.active, Lines.get, InputLine.active, h.emerg, hpolarity]

/-- What the operations of the blocks keep has the inputs stand, where the mark does. -/
theorem Part.inputsStand_of_keeps {p q : Part} (h : p.Keeps q) (hrequest : q.aff.request = p.aff.request) :
    p.InputsStand q := by
  refine ⟨Part.sameSettings_of_keeps h, fun i => ?_, by simp [h], hrequest⟩
  cases i <;> simp [Lines.get, h]

/-- An input that takes a level, a reference or a mark has its pin stand, and EMERG its level where it takes none. -/
theorem Part.setInput_inputsStand {p : Part} {i : Input} {x : InputLine} (hsettings : p.SameSettings (p.setInput i x))
    (hraw : x.raw = (p.lines.get i).raw) (hemerg : i = .emerg → x.debounced = p.lines.emerg.debounced) :
    p.InputsStand (p.setInput i x) where
  settings := hsettings
  raw j := by
    by_cases hj : j = i
    · subst hj
      simpa using hraw
    · simp [Lines.get_set_other _ _ _ _ hj]
  emerg := by
    cases i with
    | emerg => exact hemerg rfl
    | ptt | call | batt => rfl
  request := rfl

/-! ### The changes of the active states (R169) -/

/-- PTT aborts a handover that can go back, which leaves the service request mark (R131, R141). -/
theorem Part.affPtt_request (p : Part) : p.affPtt.aff.request = p.aff.request := by
  unfold Part.affPtt
  split
  next ctx hctx =>
    split
    next habort =>
      simp only [Bool.and_eq_true] at habort
      simp [Part.failHandover, habort.1]
    next => rfl
  next => rfl

theorem Part.setBattery_request (condition : BattCondition) (code : Option Byte) (p : Part) :
    (p.setBattery condition code).aff.request = p.aff.request := by
  unfold Part.setBattery
  split <;> simp

theorem Part.judgeDigital_request (p : Part) : p.judgeDigital.aff.request = p.aff.request :=
  Part.setBattery_request _ _ p

/-- An input other than EMERG that changes leaves the service request mark (R140, R169). -/
theorem Part.activeChange_request {p : Part} {i : Input} (was : Bool) (h : i ≠ .emerg) :
    (p.activeChange i was).aff.request = p.aff.request := by
  have hactive : (p.becameActive i).aff.request = p.aff.request := by
    cases i with
    | ptt => simp [Part.becameActive, Part.affPtt_request]
    | call => simp [Part.becameActive]
    | emerg => exact absurd rfl h
    | batt => exact p.judgeDigital_request
  have hinactive : (p.becameInactive i).aff.request = p.aff.request := by
    cases i with
    | batt => exact p.judgeDigital_request
    | ptt | call | emerg => rfl
  unfold Part.activeChange
  split
  · exact hactive
  · exact hinactive
  · rfl

theorem Part.activeChange_inputsStand {p : Part} {i : Input} (was : Bool) (h : i ≠ .emerg) :
    p.InputsStand (p.activeChange i was) :=
  Part.inputsStand_of_keeps (Part.activeChange_keeps i was p) (Part.activeChange_request was h)

/-- EMERG turned active sets the service request mark, and no other change of it does (R140). -/
theorem Part.activeChange_emergFrom (was : Bool) (p : Part) :
    p.activeChange .emerg was = { p with aff.request := p.aff.request || (p.active .emerg && !was) } := by
  cases was <;> cases h : p.active .emerg <;>
    simp [Part.activeChange, h, Part.becameActive, Part.becameInactive]

/-- The mark that EMERG sets stands over what stands. -/
theorem Part.InputsStand.activeChange_emerg {p q : Part} (was : Bool) (h : p.InputsStand q) :
    (p.activeChange .emerg was).InputsStand (q.activeChange .emerg was) := by
  simp only [Part.activeChange_emergFrom, h.emergActive, h.request]
  obtain ⟨⟨hparams, hidentity, henabled, hwatch0, hwatch1, hmode, hinputs⟩, hraw, hemerg, -⟩ := h
  exact ⟨⟨hparams, hidentity, henabled, hwatch0, hwatch1, hmode, hinputs⟩, hraw, hemerg, rfl⟩

/-! ### Marks, the change of mode, and the reply -/

theorem Part.judgeMark_inputsStand (i : Input) (p : Part) : p.InputsStand (p.judgeMark i) := by
  have hset : p.InputsStand (p.setInput i { p.lines.get i with mark := true }) :=
    Part.setInput_inputsStand (Part.setInput_sameSettings rfl rfl) rfl (by rintro rfl; rfl)
  unfold Part.judgeMark
  dsimp only
  split
  · split
    · exact hset.trans (Part.inputsStand_of_keeps (Part.queueNotice_keeps _ _) (by simp))
    · exact hset
  · exact .refl p

theorem Part.toAnalog_inputsStand (p : Part) : p.InputsStand p.toAnalog :=
  Part.inputsStand_of_keeps p.toAnalog_keeps (by simp [Part.toAnalog])

/-- BATT's level taken leaves the other inputs and the pins (R168). -/
theorem Part.takeLevel_batt_inputsStand (p : Part) : p.InputsStand (p.takeLevel .batt) := by
  have hset (level reference : Option Bool) :
      p.InputsStand (p.setInput .batt
        { p.lines.get .batt with debounced := level, timer := none, reference := reference }) :=
    Part.setInput_inputsStand (Part.setInput_sameSettings rfl rfl) rfl nofun
  unfold Part.takeLevel
  dsimp only
  split
  · exact ((hset _ _).trans (Part.judgeMark_inputsStand _ _)).trans (Part.activeChange_inputsStand _ (by simp))
  · exact (hset _ _).trans (Part.inputsStand_of_keeps (Part.judgeDigital_keeps _) (Part.judgeDigital_request _))

theorem Part.toDigital_inputsStand (p : Part) : p.InputsStand p.toDigital := by
  have hdebounce (q : Part) : q.InputsStand (q.startDebounce .batt) := by
    unfold Part.startDebounce
    split
    · exact q.takeLevel_batt_inputsStand
    split
    · exact .refl q
    · exact Part.setInput_inputsStand (Part.setInput_sameSettings rfl rfl) rfl nofun
  unfold Part.toDigital
  dsimp only
  refine Part.InputsStand.trans ?_ (hdebounce _)
  exact Part.inputsStand_of_keeps (by simp [Part.Keeps]) rfl

theorem Part.placeReply_inputsStand (r : Reply) (p : Part) : p.InputsStand (p.placeReply r) where
  settings := Part.placeReply_sameSettings r p
  raw i := by cases i <;> simp [Part.placeReply, Part.finish, Lines.get]
  emerg := by simp [Part.placeReply, Part.finish]
  request := by simp

/-! ### The configuration (R171) -/

/-- The part with the whole configuration of a LINES SET put in, and BATT's levels gone at a change to ANALOG (R171,
R175). -/
def Part.configured (ptt call emerg batt : InputConfig) (mode : BattMode) (p : Part) : Part :=
  { p with
    lines.ptt := p.lines.ptt.configure ptt
    lines.call := p.lines.call.configure call
    lines.emerg := p.lines.emerg.configure emerg
    lines.batt :=
      if p.lines.battMode == .digital && mode == .analog then (p.lines.batt.configure batt).unsensed
      else p.lines.batt.configure batt
    lines.battMode := mode }

/-- What follows once the configuration is in: the active changes, the marks, and the change of mode (R169, R172,
R175). -/
def Part.lineChanges (old : Lines) (toAnalog toDigital : Bool) (p : Part) : Part :=
  let p := (p.activeChange .ptt old.ptt.active).activeChange .call old.call.active
  let p := p.activeChange .emerg old.emerg.active
  let p := if toAnalog then p else p.activeChange .batt old.batt.active
  let p := (((p.judgeMark .ptt).judgeMark .call).judgeMark .emerg).judgeMark .batt
  if toAnalog then p.toAnalog else if toDigital then p.toDigital else p

theorem Part.configureLines_eq (ptt call emerg batt : InputConfig) (mode : BattMode) (p : Part) :
    p.configureLines ptt call emerg batt mode =
      (p.configured ptt call emerg batt mode).lineChanges p.lines (p.lines.battMode == .digital && mode == .analog)
        (p.lines.battMode == .analog && mode == .digital) := rfl

/-- The changes that follow are EMERG's and others that have the inputs stand (their order is log entry 16). -/
theorem Part.lineChanges_inputsStand (old : Lines) (toAnalog toDigital : Bool) (p : Part) :
    (p.activeChange .emerg old.emerg.active).InputsStand (p.lineChanges old toAnalog toDigital) := by
  have hinputs := ((Part.activeChange_inputsStand (p := p) (i := .ptt) old.ptt.active (by simp)).trans
    (Part.activeChange_inputsStand (i := .call) old.call.active (by simp))).activeChange_emerg old.emerg.active
  have hmarks (q : Part) : q.InputsStand ((((q.judgeMark .ptt).judgeMark .call).judgeMark .emerg).judgeMark .batt) :=
    (((q.judgeMark_inputsStand _).trans (Part.judgeMark_inputsStand _ _)).trans
      (Part.judgeMark_inputsStand _ _)).trans (Part.judgeMark_inputsStand _ _)
  cases toAnalog with
  | true => exact (hinputs.trans (hmarks _)).trans (Part.toAnalog_inputsStand _)
  | false =>
    have hbatt := hinputs.trans (Part.activeChange_inputsStand (i := .batt) old.batt.active (by simp))
    cases toDigital with
    | true => exact (hbatt.trans (hmarks _)).trans (Part.toDigital_inputsStand _)
    | false => exact hbatt.trans (hmarks _)

/-- The configuration a LINES SET carries for each input. -/
def chosenConfig (ptt call emerg batt : InputConfig) : Input → InputConfig
  | .ptt => ptt
  | .call => call
  | .emerg => emerg
  | .batt => batt

/-- Every input has the polarity and the change report chosen for it, and its pin's level (R171). -/
theorem Part.configured_get (ptt call emerg batt : InputConfig) (mode : BattMode) (p : Part) (i : Input) :
    ((p.configured ptt call emerg batt mode).lines.get i).raw = (p.lines.get i).raw ∧
      ((p.configured ptt call emerg batt mode).lines.get i).polarity = (chosenConfig ptt call emerg batt i).polarity ∧
      ((p.configured ptt call emerg batt mode).lines.get i).report = (chosenConfig ptt call emerg batt i).report := by
  cases i with
  | ptt | call | emerg => exact ⟨rfl, rfl, rfl⟩
  | batt =>
    simp only [Part.configured, Lines.get]
    split <;> exact ⟨rfl, rfl, rfl⟩

/-! ### The command -/

/-- The configuration an input byte carries in its bits 0 and 1 (R196). -/
def inputConfig (b : Byte) : InputConfig := ⟨if b.getLsbD 0 = true then .activeLow else .activeHigh, b.getLsbD 1⟩

theorem configOfByte_eq_some {b : Byte} {c : InputConfig} :
    configOfByte b = some c ↔ b.toNat < 4 ∧ inputConfig b = c := by
  unfold configOfByte
  split
  next h => simp [inputConfig, h]
  next h => simp [h]

theorem battModeOfCode_eq_some {m : Byte} {mode : BattMode} :
    battModeOfCode m.toNat = some mode ↔ m.toNat < 2 ∧ (if m = 0 then .digital else .analog) = mode := by
  have hdigital : m = 0 ↔ m.toNat = 0 := by rw [← BitVec.toNat_inj]; rfl
  rw [if_congr hdigital rfl rfl]
  unfold battModeOfCode
  split
  next h => simp [h]
  next h => simp [h]
  next h0 h1 =>
    have hzero : m.toNat ≠ 0 := h0
    have hone : m.toNat ≠ 1 := h1
    have hundefined : ¬ m.toNat < 2 := by omega
    simp [hundefined]

theorem answerLinesSet_taken {ptt call emerg batt mode : Byte} (p : Part) (hptt : ptt.toNat < 4)
    (hcall : call.toNat < 4) (hemerg : emerg.toNat < 4) (hbatt : batt.toNat < 4) (hmode : mode.toNat < 2) :
    answerLinesSet [ptt, call, emerg, batt, mode] p =
      (p.configureLines (inputConfig ptt) (inputConfig call) (inputConfig emerg) (inputConfig batt)
        (if mode = 0 then .digital else .analog)).ok [] := by
  simp only [answerLinesSet, configOfByte_eq_some.mpr ⟨hptt, rfl⟩, configOfByte_eq_some.mpr ⟨hcall, rfl⟩,
    configOfByte_eq_some.mpr ⟨hemerg, rfl⟩, configOfByte_eq_some.mpr ⟨hbatt, rfl⟩,
    battModeOfCode_eq_some.mpr ⟨hmode, rfl⟩]

/-- An undefined bit or mode is refused (R171). -/
theorem answerLinesSet_undefined {ptt call emerg batt mode : Byte} (p : Part)
    (h : 4 ≤ ptt.toNat ∨ 4 ≤ call.toNat ∨ 4 ≤ emerg.toNat ∨ 4 ≤ batt.toNat ∨ 2 ≤ mode.toNat) :
    answerLinesSet [ptt, call, emerg, batt, mode] p = p.refuse .badArg := by
  unfold answerLinesSet
  dsimp only
  split
  next hptt hcall hemerg hbatt hmode =>
    have := (configOfByte_eq_some.mp hptt).1
    have := (configOfByte_eq_some.mp hcall).1
    have := (configOfByte_eq_some.mp hemerg).1
    have := (configOfByte_eq_some.mp hbatt).1
    have := (battModeOfCode_eq_some.mp hmode).1
    omega
  next => rfl

/-- Settles O53: the configuration is put in, EMERG's change sets the mark, and the other changes have both stand. -/
theorem linesSetReplacesTheConfiguration : Obligations.LinesSetReplacesTheConfiguration := by
  unfold Obligations.LinesSetReplacesTheConfiguration
  intro s tag p c e b m htag h
  refine ⟨fun hp hc he hb hm => ?_, fun hbad => ?_⟩
  · let mode : BattMode := if m = 0 then .digital else .analog
    let start : Part := s.part.configured (inputConfig p) (inputConfig c) (inputConfig e) (inputConfig b) mode
    let q : Part :=
      (start.lineChanges s.part.lines (s.part.lines.battMode == .digital && mode == .analog)
        (s.part.lines.battMode == .analog && mode == .digital)).placeReply ⟨0x92, tag, .ok, []⟩
    have htaken : s.part.command 0x12 (tag :: [p, c, e, b, m]) answerLinesSet = q := by
      rw [Part.command_of_hears h htag, answerLinesSet_taken s.part hp hc he hb hm, Part.configureLines_eq]
      rfl
    have hstand : (start.activeChange .emerg (s.part.active .emerg)).InputsStand q :=
      (Part.lineChanges_inputsStand s.part.lines _ _ start).trans (Part.placeReply_inputsStand _ _)
    have hactive : q.active .emerg = start.active .emerg := by
      rw [hstand.emergActive, Part.activeChange_emergFrom]
      rfl
    have hrequest := hstand.request
    rw [Part.activeChange_emergFrom] at hstand hrequest
    obtain ⟨hparams, hidentity, -, hwatch0, hwatch1, hmode, hinputs⟩ := hstand.settings
    refine ⟨s.withPart q, congrArg (fun r => Host.Outcome.next (s.withPart r)) htaken, Part.placeReply_reply _ _,
      fun i => ?_, hmode, hstand.emerg, ?_, hparams, hidentity, hwatch0, hwatch1⟩
    · obtain ⟨hraw, hpolarity, hreport⟩ :=
        Part.configured_get (inputConfig p) (inputConfig c) (inputConfig e) (inputConfig b) mode s.part i
      refine ⟨(hstand.raw i).trans hraw, (hinputs i).1.trans (hpolarity.trans ?_),
        (hinputs i).2.trans (hreport.trans ?_)⟩ <;> cases i <;> rfl
    · rw [State.withPart_part, hactive]
      exact hrequest
  · exact next_command_refused s (kind := 0x12) (f := answerLinesSet) htag h (answerLinesSet_undefined s.part hbad)

end Sys2Proof.Machine
end

section
/-! SUPPORT. What the operations of the blocks make of the link: those that queue no notice leave it alone, and the
others leave at most 16 notices queued (R191 to R193). One lemma per shared operation. -/

namespace Sys2Proof.Machine

/-! ### The operations that queue no notice -/

@[simp] theorem Part.place_link (position : Nat) (r : SiteRecord) (p : Part) :
    (p.place position r).link = p.link := by rfl

@[simp] theorem Part.rechannel_link (site channel : Nat) (p : Part) : (p.rechannel site channel).link = p.link := by rfl

@[simp] theorem Part.removeRec_link (site : Nat) (p : Part) : (p.removeRec site).link = p.link := by rfl

@[simp] theorem Part.unconfirmOthers_link (channel site : Nat) (p : Part) :
    (p.unconfirmOthers channel site).link = p.link := by rfl

@[simp] theorem Part.countTable_link (p : Part) : p.countTable.link = p.link := by rfl

@[simp] theorem Part.takeRssi_link (p : Part) : p.takeRssi.link = p.link := by
  simp [Part.takeRssi]

@[simp] theorem Part.waitConverter_link (user : ConvUser) (p : Part) : (p.waitConverter user).link = p.link := by
  unfold Part.waitConverter; (repeat' split) <;> simp

@[simp] theorem Part.askRssi_link (p : Part) : p.askRssi.link = p.link := by
  unfold Part.askRssi; split <;> simp

@[simp] theorem Part.askBattery_link (p : Part) : p.askBattery.link = p.link := by
  unfold Part.askBattery; split <;> simp

@[simp] theorem Part.passFirstGap_link (p : Part) : p.passFirstGap.link = p.link := by
  unfold Part.passFirstGap; (repeat' split) <;> simp

@[simp] theorem Part.skipGaps_link (p : Part) : p.skipGaps.link = p.link := by rfl

@[simp] theorem Part.discardBurst_link (p : Part) : p.discardBurst.link = p.link := by
  unfold Part.discardBurst; split <;> simp

@[simp] theorem Part.recomputePosition_link (p : Part) : p.recomputePosition.link = p.link := by
  unfold Part.recomputePosition; dsimp only; split <;> simp

@[simp] theorem Part.startOp_link (owner : Owner) (req : TuneReq) (p : Part) : (p.startOp owner req).link = p.link := by
  simp [Part.startOp]

@[simp] theorem Part.putWaiting_link (owner : Owner) (req : TuneReq) (p : Part) :
    (p.putWaiting owner req).link = p.link := by
  unfold Part.putWaiting; split <;> simp

@[simp] theorem Part.requestTune_link (owner : Owner) (req : TuneReq) (p : Part) :
    (p.requestTune owner req).link = p.link := by
  unfold Part.requestTune; (repeat' split) <;> simp

@[simp] theorem Part.requestReturn_link (owner : Owner) (p : Part) : (p.requestReturn owner).link = p.link := by
  unfold Part.requestReturn; split <;> simp

@[simp] theorem Part.serveClients_link (p : Part) : p.serveClients.link = p.link := by
  unfold Part.serveClients; split <;> simp

@[simp] theorem Part.clearWaiting_link (owner : Owner) (p : Part) : (p.clearWaiting owner).link = p.link := by
  unfold Part.clearWaiting; split <;> simp

@[simp] theorem Part.secondAttempt_link (op : TuneOp) (p : Part) : (p.secondAttempt op).link = p.link := by rfl

@[simp] theorem Part.endReady_link (op : TuneOp) (p : Part) : (p.endReady op).link = p.link := by
  simp [Part.endReady]

@[simp] theorem Part.endFailed_link (p : Part) : p.endFailed.link = p.link := by
  simp [Part.endFailed]

@[simp] theorem Part.markFault_link (p : Part) : p.markFault.link = p.link := by
  simp [Part.markFault]

@[simp] theorem Part.freshMarks_link (p : Part) : p.freshMarks.link = p.link := by rfl

@[simp] theorem Part.startInterval_link (p : Part) : p.startInterval.link = p.link := by rfl

@[simp] theorem Part.suspend_link (p : Part) : p.suspend.link = p.link := by rfl

@[simp] theorem Part.resume_link (p : Part) : p.resume.link = p.link := by
  unfold Part.resume; dsimp only; split <;> simp

@[simp] theorem Part.supRestart_link (cls : Option Nat) (p : Part) : (p.supRestart cls).link = p.link := by rfl

@[simp] theorem Part.notePtt_link (p : Part) : p.notePtt.link = p.link := by
  unfold Part.notePtt; split <;> simp

@[simp] theorem Part.noteGap_link (p : Part) : p.noteGap.link = p.link := by
  unfold Part.noteGap; split <;> simp

@[simp] theorem Part.startHomeGap_link (w : RoundWork) (x : Nat × SiteRecord) (fromPending : Bool) (p : Part) :
    (p.startHomeGap w x fromPending).link = p.link := by
  simp [Part.startHomeGap]

@[simp] theorem Part.considerHomeGap_link (p : Part) : p.considerHomeGap.link = p.link := by
  unfold Part.considerHomeGap; dsimp only; (repeat' split) <;> simp

@[simp] theorem Part.considerHunt_link (p : Part) : p.considerHunt.link = p.link := by
  unfold Part.considerHunt; dsimp only; (repeat' split) <;> simp

@[simp] theorem Part.movePointer_link (g : Gap) (p : Part) : (p.movePointer g).link = p.link := by
  unfold Part.movePointer; (repeat' split) <;> simp

@[simp] theorem Part.gapTuneHome_link (g : Gap) (p : Part) : (p.gapTuneHome g).link = p.link := by
  simp [Part.gapTuneHome]

@[simp] theorem Part.abortHomeGap_link (p : Part) : p.abortHomeGap.link = p.link := by
  unfold Part.abortHomeGap; (repeat' split) <;> simp

@[simp] theorem Part.visitFailed_link (g : Gap) (noBeacon : Bool) (p : Part) :
    (p.visitFailed g noBeacon).link = p.link := by
  unfold Part.visitFailed; split <;> simp

@[simp] theorem Part.startBurst_link (site : Nat) (p : Part) : (p.startBurst site).link = p.link := by
  simp [Part.startBurst]

@[simp] theorem Part.requestWork_link (p : Part) : p.requestWork.link = p.link := by
  unfold Part.requestWork; dsimp only; (repeat' split) <;> simp

@[simp] theorem Part.goTune_link (ctx : Context) (p : Part) : (p.goTune ctx).link = p.link := by
  unfold Part.goTune; dsimp only; split <;> simp

@[simp] theorem Part.beginHandover_link (target : Nat) (cause : Cause) (ofRound : Bool) (p : Part) :
    (p.beginHandover target cause ofRound).link = p.link := by
  unfold Part.beginHandover; dsimp only; (repeat' split) <;> simp

@[simp] theorem Part.reportEnded_link (frame : AirFrame) (outcome : TxOutcome) (p : Part) :
    (p.reportEnded frame outcome).link = p.link := by
  unfold Part.reportEnded; split <;> simp

@[simp] theorem Part.countRound_link (p : Part) : p.countRound.link = p.link := by rfl

@[simp] theorem Part.makeOrdinary_link (old : Option Nat) (p : Part) : (p.makeOrdinary old).link = p.link := by
  unfold Part.makeOrdinary; split <;> simp

@[simp] theorem Part.leaveOld_link (old : Option Nat) (cause : Cause) (p : Part) :
    (p.leaveOld old cause).link = p.link := by
  unfold Part.leaveOld; split <;> simp

/-! ### The notice queue -/

/-- A queue of at most 16 notices is one of at most 16 afterwards (R191). -/
abbrev Part.QueueHolds (p q : Part) : Prop := p.link.notices.length ≤ 16 → q.link.notices.length ≤ 16

theorem dropNewestOther_length {queue rest : List Queued} (h : dropNewestOther queue = some rest) :
    rest.length + 1 = queue.length := by
  induction queue generalizing rest with
  | nil => cases h
  | cons q qs ih =>
    unfold dropNewestOther at h
    split at h
    · rename_i qs' hqs
      cases h
      simp [← ih hqs]
    · split at h <;> cases h
      rfl

/-- A TRANSMIT that finds the queue full takes exactly one notice out of it, whatever the free value is (R193). -/
theorem displaceOne_length {queue : List Queued} (freeCount : Nat) (h : queue ≠ []) :
    (displaceOne queue freeCount).length + 1 = queue.length := by
  unfold displaceOne
  have hpos : 0 < queue.length := List.length_pos_of_ne_nil h
  split
  · rename_i hd; exact dropNewestOther_length hd
  · rw [List.length_eraseIdx_of_lt (Nat.mod_lt _ hpos)]
    omega

@[simp] theorem Part.queueNotice_queueHolds (n : Notice) (p : Part) : p.QueueHolds (p.queueNotice n) := by
  intro h
  unfold Part.queueNotice
  split
  · split
    · simp; omega
    · split
      · rename_i hfull _
        have hne : p.link.notices ≠ [] := by rintro h0; simp [h0] at hfull
        have := displaceOne_length p.freeCount hne
        simp; omega
      · exact h
  · exact h

/-! ### The engine and the watches -/

@[simp] theorem Part.endRound_queueHolds (p : Part) : p.QueueHolds p.endRound := fun h => by
  simp [Part.endRound, h]

@[simp] theorem Part.engineNotice_queueHolds (cause : EngineCause) (slot : Option Nat) (p : Part) :
    p.QueueHolds (p.engineNotice cause slot) := fun h => by
  simp [Part.engineNotice, h]

@[simp] theorem Part.freezeWatch_queueHolds (slot : Nat) (p : Part) : p.QueueHolds (p.freezeWatch slot) := by
  intro h
  unfold Part.freezeWatch; (repeat' split) <;> simp [h]

@[simp] theorem Part.freezeTune_queueHolds (p : Part) : p.QueueHolds p.freezeTune := fun h => by
  simp [Part.freezeTune, h]

@[simp] theorem Part.offerSlot_queueHolds (slot : Nat) (watch : Option Watch) (site : Nat) (source : WriteSource)
    (p : Part) : p.QueueHolds (p.offerSlot slot watch site source) := by
  intro h
  unfold Part.offerSlot; (repeat' split) <;> simp [h]

@[simp] theorem Part.offerWrite_queueHolds (site : Nat) (source : WriteSource) (p : Part) :
    p.QueueHolds (p.offerWrite site source) := fun h => by
  simp [Part.offerWrite, h]

@[simp] theorem Part.selectCheck_queueHolds (site : Nat) (cause : Cause) (p : Part) :
    p.QueueHolds (p.selectCheck site cause).2 := by
  intro h
  unfold Part.selectCheck; (repeat' split) <;> simp [h]

theorem Part.selectCheck_queueHolds_of {site : Nat} {cause : Cause} {b : Bool} {p q : Part}
    (h : p.selectCheck site cause = (b, q)) : p.QueueHolds q := by
  have hq := Part.selectCheck_queueHolds site cause p
  rwa [h] at hq

@[simp] theorem Part.startRunning_queueHolds (cause : EngineCause) (p : Part) :
    p.QueueHolds (p.startRunning cause) := fun h => by
  simp [Part.startRunning, h]

@[simp] theorem Part.engineReady_queueHolds (p : Part) : p.QueueHolds p.engineReady := by
  intro h
  unfold Part.engineReady; split <;> simp [h]

/-! ### Crediting, confirmation and learning -/

@[simp] theorem Part.credit_queueHolds (site mean : Nat) (p : Part) : p.QueueHolds (p.credit site mean) := fun h => by
  simp [Part.credit, h]

@[simp] theorem Part.confirmFromBeacon_queueHolds (r : SiteRecord) (load : Nat) (p : Part) :
    p.QueueHolds (p.confirmFromBeacon r load) := by
  intro h
  unfold Part.confirmFromBeacon; split <;> simp [h]

theorem Part.makeRoom_queueHolds {keep : List Nat} {p q : Part} {i : Nat} (h : p.makeRoom keep = some (i, q)) :
    p.QueueHolds q := by
  intro hp
  unfold Part.makeRoom at h
  split at h
  · cases h; exact hp
  · split at h <;> cases h
    simp [hp]

theorem Part.learn_queueHolds {site channel : Nat} {source : LearnSource} {keep : List Nat} {p q : Part}
    (h : p.learn site channel source keep = some q) : p.QueueHolds q := by
  intro hp
  unfold Part.learn at h
  split at h <;> cases h
  rename_i hroom
  simp [Part.makeRoom_queueHolds hroom hp]

theorem Part.learnEntry_queueHolds (entry : Nat × Nat) (x : List Nat × Part) :
    x.2.QueueHolds (Part.learnEntry entry x).2 := by
  intro h
  unfold Part.learnEntry
  dsimp only
  split
  · exact h
  · split
    · split
      · rename_i hl; exact Part.learn_queueHolds hl h
      · exact h
    · split <;> simp [h]

@[simp] theorem Part.learnNeighbours_queueHolds (entries : List (Nat × Nat)) (p : Part) :
    p.QueueHolds (p.learnNeighbours entries) := by
  have hfold (x : List Nat × Part) : x.2.QueueHolds (entries.foldl (fun x e => Part.learnEntry e x) x).2 := by
    induction entries generalizing x with
    | nil => exact id
    | cons e es ih => exact fun h => ih _ (Part.learnEntry_queueHolds e x h)
  exact hfold ([], p)

/-! ### The receiver freed -/

@[simp] theorem Part.makeRetry_queueHolds (p : Part) : p.QueueHolds p.makeRetry := by
  intro h
  unfold Part.makeRetry; split <;> simp [h]

@[simp] theorem Part.freeReceiver_queueHolds (p : Part) : p.QueueHolds p.freeReceiver := by
  intro h
  unfold Part.freeReceiver; dsimp only; (repeat' split) <;> simp [h]

@[simp] theorem Part.releaseReceiver_queueHolds (owner : Owner) (p : Part) :
    p.QueueHolds (p.releaseReceiver owner) := by
  intro h
  unfold Part.releaseReceiver; dsimp only; (repeat' split) <;> simp [h]

@[simp] theorem Part.askRetry_queueHolds (p : Part) : p.QueueHolds p.askRetry := by
  intro h
  unfold Part.askRetry; (repeat' split) <;> simp [h]

@[simp] theorem Part.latch_queueHolds (op : TuneOp) (p : Part) : p.QueueHolds (p.latch op) := by
  intro h
  unfold Part.latch
  dsimp only
  split
  · exact h
  · simp [h]
  · exact Part.freeReceiver_queueHolds _ h

/-! ### Supervision -/

@[simp] theorem Part.supBeacon_queueHolds (site cls : Nat) (p : Part) : p.QueueHolds (p.supBeacon site cls) := by
  intro h
  unfold Part.supBeacon; dsimp only; (repeat' split) <;> simp [h]

@[simp] theorem Part.countCoarse_queueHolds (site : Nat) (p : Part) : p.QueueHolds (p.countCoarse site) := by
  intro h
  unfold Part.countCoarse; dsimp only; split <;> simp [h]

@[simp] theorem Part.countInterval_queueHolds (site : Nat) (p : Part) : p.QueueHolds (p.countInterval site) := by
  intro h
  unfold Part.countInterval; dsimp only; (repeat' split) <;> simp [h]

@[simp] theorem Part.judgeInterval_queueHolds (site : Nat) (p : Part) : p.QueueHolds (p.judgeInterval site) := by
  intro h
  unfold Part.judgeInterval; (repeat' split) <;> simp [h]

/-! ### The early end of a gap -/

@[simp] theorem Part.abortHuntGap_queueHolds (p : Part) : p.QueueHolds p.abortHuntGap := by
  intro h
  unfold Part.abortHuntGap; (repeat' split) <;> simp [h]

@[simp] theorem Part.endHomeGapNow_queueHolds (p : Part) : p.QueueHolds p.endHomeGapNow := by
  intro h
  unfold Part.endHomeGapNow; split <;> simp [h]

@[simp] theorem Part.schedCall_queueHolds (p : Part) : p.QueueHolds p.schedCall := fun h => by
  simp [Part.schedCall, h]

@[simp] theorem Part.schedPtt_queueHolds (p : Part) : p.QueueHolds p.schedPtt := fun h => by
  simp [Part.schedPtt, h]

/-! ### The affiliation controller -/

@[simp] theorem Part.issueTx_queueHolds (kind : TxKind) (frame : AirFrame) (delay : Nat) (p : Part) :
    p.QueueHolds (p.issueTx kind frame delay) := fun h => by
  simp [Part.issueTx, h]

@[simp] theorem Part.issueRegister_queueHolds (ctx : Context) (p : Part) :
    p.QueueHolds (p.issueRegister ctx) := fun h => by
  simp [Part.issueRegister, h]

@[simp] theorem Part.enterSend_queueHolds (ctx : Context) (p : Part) : p.QueueHolds (p.enterSend ctx) := by
  intro h
  unfold Part.enterSend; dsimp only; split <;> simp [h]

@[simp] theorem Part.issueDeregister_queueHolds (p : Part) : p.QueueHolds p.issueDeregister := fun h => by
  simp [Part.issueDeregister, h]

@[simp] theorem Part.gapEndedReport_queueHolds (p : Part) : p.QueueHolds p.gapEndedReport := by
  intro h
  unfold Part.gapEndedReport; (repeat' split) <;> simp [h]

@[simp] theorem Part.goNone_queueHolds (cause : NoServiceCause) (p : Part) : p.QueueHolds (p.goNone cause) := by
  intro h
  exact Part.queueNotice_queueHolds _ _ (Part.releaseReceiver_queueHolds _ _
    (Part.endHomeGapNow_queueHolds _ (by simpa using h)))

/-! ### Loss selection, the evaluation and the round -/

@[simp] theorem Part.selectForLoss_queueHolds (p : Part) : p.QueueHolds p.selectForLoss := by
  intro h
  unfold Part.selectForLoss
  split
  · dsimp only; split <;> simp [h]
  · split <;> (rename_i hs; simp [Part.selectCheck_queueHolds_of hs h])

@[simp] theorem Part.raiseLoss_queueHolds (p : Part) : p.QueueHolds p.raiseLoss := by
  intro h
  unfold Part.raiseLoss; split <;> simp [h]

@[simp] theorem Part.reportLost_queueHolds (p : Part) : p.QueueHolds p.reportLost := by
  intro h
  unfold Part.reportLost; split <;> simp [h]

@[simp] theorem Part.endEvent_queueHolds (ctx : Context) (p : Part) : p.QueueHolds (p.endEvent ctx) := fun h => by
  simp [Part.endEvent, h]

@[simp] theorem Part.selectAgain_queueHolds (ctx : Context) (p : Part) : p.QueueHolds (p.selectAgain ctx) := by
  intro h
  unfold Part.selectAgain
  dsimp only
  split
  · split
    · simp [h]
    · split <;> (rename_i hs; simp [Part.selectCheck_queueHolds_of hs h])
  · simp [h]

@[simp] theorem Part.handOff_queueHolds (site : Nat) (cause : Cause) (p : Part) :
    p.QueueHolds (p.handOff site cause) := by
  intro h
  unfold Part.handOff
  split <;> (rename_i hs; simp [Part.selectCheck_queueHolds_of hs h])

@[simp] theorem Part.judge_queueHolds (serving : SiteRecord) (l : Level) (p : Part) :
    p.QueueHolds (p.judge serving l) := by
  intro h
  unfold Part.judge; dsimp only; (repeat' split) <;> simp [h]

@[simp] theorem Part.evaluate_queueHolds (p : Part) : p.QueueHolds p.evaluate := by
  intro h
  unfold Part.evaluate; (repeat' split) <;> simp [h]

@[simp] theorem Part.round_queueHolds (p : Part) : p.QueueHolds p.round := by
  intro h
  unfold Part.round; dsimp only; split <;> simp [h]

@[simp] theorem Part.endStepRound_queueHolds (p : Part) : p.QueueHolds p.endStepRound := by
  intro h
  unfold Part.endStepRound; split <;> simp [h]

/-! ### Handovers, transmit requests and the serving site's orders -/

@[simp] theorem Part.failHandover_queueHolds (ctx : Context) (reason : FailReason) (refuse : Option RefuseReason)
    (retry : Nat) (p : Part) : p.QueueHolds (p.failHandover ctx reason refuse retry) := by
  intro h
  unfold Part.failHandover; split <;> simp [h]

@[simp] theorem Part.succeedHandover_queueHolds (ctx : Context) (slot : Option Nat) (sense : Sense) (p : Part) :
    p.QueueHolds (p.succeedHandover ctx slot sense) := fun h => by
  simp [Part.succeedHandover, h]

@[simp] theorem Part.endReturn_queueHolds (p : Part) : p.QueueHolds p.endReturn := fun h => by
  simp [Part.endReturn, h]

@[simp] theorem Part.affPtt_queueHolds (p : Part) : p.QueueHolds p.affPtt := by
  intro h
  unfold Part.affPtt; (repeat' split) <;> simp [h]

@[simp] theorem Part.issueWaiting_queueHolds (p : Part) : p.QueueHolds p.issueWaiting := by
  intro h
  unfold Part.issueWaiting; (repeat' split) <;> simp [h]

@[simp] theorem Part.registerEnded_queueHolds (outcome : TxOutcome) (p : Part) :
    p.QueueHolds (p.registerEnded outcome) := by
  intro h
  unfold Part.registerEnded; (repeat' split) <;> simp [h]

@[simp] theorem Part.endTx_queueHolds (tx : TxReq) (outcome : TxOutcome) (p : Part) :
    p.QueueHolds (p.endTx tx outcome) := by
  intro h
  unfold Part.endTx; split <;> simp [h]

@[simp] theorem Part.rollCall_queueHolds (site : Nat) (p : Part) : p.QueueHolds (p.rollCall site) := by
  intro h
  unfold Part.rollCall; (repeat' split) <;> simp [h]

@[simp] theorem Part.statusQuery_queueHolds (site : Nat) (p : Part) : p.QueueHolds (p.statusQuery site) := by
  intro h
  unfold Part.statusQuery; split <;> simp [h]

@[simp] theorem Part.refuseDirect_queueHolds (target : Nat) (reason : DirectReason) (p : Part) :
    p.QueueHolds (p.refuseDirect target reason) := fun h => by
  simp [Part.refuseDirect, h]

@[simp] theorem Part.direct_queueHolds (target channel : Nat) (p : Part) : p.QueueHolds (p.direct target channel) := by
  intro h
  unfold Part.direct
  split; · simp [h]
  split; · simp [h]
  split; · exact h
  split
  · split
    · rename_i hl; simp [Part.learn_queueHolds hl h]
    · simp [h]
  · split; · simp [h]
    split; · simp [h]
    split; · simp [h]
    split <;> (rename_i hs; simp [Part.selectCheck_queueHolds_of hs h])

@[simp] theorem Part.release_queueHolds (site retry : Nat) (p : Part) :
    p.QueueHolds (p.release site retry) := fun h => by
  simp [Part.release, h]

/-! ### The course of a measurement -/

@[simp] theorem Part.offerAcquire_queueHolds (site : Nat) (inStep : Bool) (p : Part) :
    p.QueueHolds (p.offerAcquire site inStep) := by
  intro h
  unfold Part.offerAcquire
  split
  · split
    · split <;> (rename_i hs; simp [Part.selectCheck_queueHolds_of hs h])
    · exact h
  · exact h

@[simp] theorem Part.endHomeGap_queueHolds (p : Part) : p.QueueHolds p.endHomeGap := fun h => by
  simp [Part.endHomeGap, h]

@[simp] theorem Part.endHuntGap_queueHolds (g : Gap) (offer : Option Nat) (p : Part) :
    p.QueueHolds (p.endHuntGap g offer) := by
  intro h
  unfold Part.endHuntGap; split <;> simp [h]

@[simp] theorem Part.creditGap_queueHolds (g : Gap) (p : Part) : p.QueueHolds (p.creditGap g) := by
  intro h
  unfold Part.creditGap; (repeat' split) <;> simp [h]

@[simp] theorem Part.failGap_queueHolds (g : Gap) (noBeacon : Bool) (p : Part) :
    p.QueueHolds (p.failGap g noBeacon) := by
  intro h
  unfold Part.failGap; split <;> simp [h]

@[simp] theorem Part.gapSampled_queueHolds (g : Gap) (p : Part) : p.QueueHolds (p.gapSampled g) := by
  intro h
  unfold Part.gapSampled; split <;> simp [h]

@[simp] theorem Part.endBurst_queueHolds (b : Burst) (p : Part) : p.QueueHolds (p.endBurst b) := by
  intro h
  unfold Part.endBurst; split <;> simp [h]

@[simp] theorem Part.runComplete_queueHolds (p : Part) : p.QueueHolds p.runComplete := by
  intro h
  unfold Part.runComplete; (repeat' split) <;> simp [h]

@[simp] theorem Part.takeSample_queueHolds (code : Byte) (p : Part) : p.QueueHolds (p.takeSample code) := by
  intro h
  unfold Part.takeSample; dsimp only; (repeat' split) <;> simp [h]

@[simp] theorem Part.noteBeacon_queueHolds (g : Gap) (site : Nat) (p : Part) : p.QueueHolds (p.noteBeacon g site) := by
  intro h
  unfold Part.noteBeacon; dsimp only; (repeat' split) <;> simp [h]

@[simp] theorem Part.schedReady_queueHolds (p : Part) : p.QueueHolds p.schedReady := by
  intro h
  unfold Part.schedReady; (repeat' split) <;> simp [h]

@[simp] theorem Part.schedFailed_queueHolds (p : Part) : p.QueueHolds p.schedFailed := by
  intro h
  unfold Part.schedFailed; (repeat' split) <;> simp [h]

/-! ### Air frames -/

@[simp] theorem Part.beaconWrites_queueHolds (b : Beacon) (p : Part) : p.QueueHolds (p.beaconWrites b) := by
  intro h
  unfold Part.beaconWrites
  split
  · split <;> simp [h]
  · split
    · split
      · exact h
      · split
        · rename_i hl; simp [Part.learn_queueHolds hl h]
        · exact h
    · exact h

@[simp] theorem Part.targetBeacon_queueHolds (ctx : Context) (b : Beacon) (p : Part) :
    p.QueueHolds (p.targetBeacon ctx b) := by
  intro h
  unfold Part.targetBeacon; split <;> simp [h]

@[simp] theorem Part.handOnBeacon_queueHolds (b : Beacon) (p : Part) : p.QueueHolds (p.handOnBeacon b) := by
  intro h
  unfold Part.handOnBeacon; (repeat' split) <;> simp [h]

@[simp] theorem Part.takeFrame_queueHolds (frame : AirFrame) (p : Part) : p.QueueHolds (p.takeFrame frame) := by
  intro h
  unfold Part.takeFrame Part.takeBeacon
  (repeat' split) <;> simp [h]

/-! ### A tune's outcomes -/

@[simp] theorem Part.affReady_queueHolds (p : Part) : p.QueueHolds p.affReady := by
  intro h
  unfold Part.affReady; split <;> simp [h]

@[simp] theorem Part.affFailed_queueHolds (p : Part) : p.QueueHolds p.affFailed := by
  intro h
  unfold Part.affFailed; split <;> simp [h]

@[simp] theorem Part.handReady_queueHolds (owner : Owner) (p : Part) : p.QueueHolds (p.handReady owner) := by
  intro h
  unfold Part.handReady; split <;> simp [h]

@[simp] theorem Part.handFailed_queueHolds (owner : Owner) (p : Part) : p.QueueHolds (p.handFailed owner) := by
  intro h
  unfold Part.handFailed; split <;> simp [h]

@[simp] theorem Part.opReady_queueHolds (op : TuneOp) (p : Part) : p.QueueHolds (p.opReady op) := fun h => by
  simp [Part.opReady, h]

@[simp] theorem Part.lockTaken_queueHolds (op : TuneOp) (p : Part) : p.QueueHolds (p.lockTaken op) := by
  intro h
  unfold Part.lockTaken; split <;> simp [h]

@[simp] theorem Part.lockFailed_queueHolds (op : TuneOp) (p : Part) : p.QueueHolds (p.lockFailed op) := by
  intro h
  unfold Part.lockFailed
  split
  · exact Part.handFailed_queueHolds _ _ (by simpa using h)
  · split
    · simp [h]
    · exact Part.freezeTune_queueHolds _ (Part.endStepRound_queueHolds _
        (Part.handFailed_queueHolds _ _ (by simpa using h)))

/-! ### The line monitor -/

@[simp] theorem Part.setBattery_queueHolds (condition : BattCondition) (code : Option Byte) (p : Part) :
    p.QueueHolds (p.setBattery condition code) := by
  intro h
  unfold Part.setBattery; split <;> simp [h]

@[simp] theorem Part.judgeDigital_queueHolds (p : Part) : p.QueueHolds p.judgeDigital := fun h => by
  simp [Part.judgeDigital, h]

@[simp] theorem Part.judgeCode_queueHolds (code : Byte) (p : Part) : p.QueueHolds (p.judgeCode code) := by
  intro h
  unfold Part.judgeCode; split <;> simp [h]

@[simp] theorem Part.becameActive_queueHolds (i : Input) (p : Part) : p.QueueHolds (p.becameActive i) := by
  intro h
  unfold Part.becameActive; split <;> simp [h]

@[simp] theorem Part.becameInactive_queueHolds (i : Input) (p : Part) : p.QueueHolds (p.becameInactive i) := by
  intro h
  unfold Part.becameInactive; split <;> simp [h]

@[simp] theorem Part.activeChange_queueHolds (i : Input) (was : Bool) (p : Part) :
    p.QueueHolds (p.activeChange i was) := by
  intro h
  unfold Part.activeChange; split <;> simp [h]

@[simp] theorem Part.judgeMark_queueHolds (i : Input) (p : Part) : p.QueueHolds (p.judgeMark i) := by
  intro h
  unfold Part.judgeMark
  dsimp only
  split
  · split
    · exact Part.queueNotice_queueHolds _ _ h
    · exact h
  · exact h

@[simp] theorem Part.takeLevel_queueHolds (i : Input) (p : Part) : p.QueueHolds (p.takeLevel i) := by
  intro h
  unfold Part.takeLevel
  dsimp only
  split
  · exact Part.activeChange_queueHolds _ _ _ (Part.judgeMark_queueHolds _ _ h)
  · split
    · exact Part.judgeDigital_queueHolds _ h
    · exact Part.activeChange_queueHolds _ _ _ h

@[simp] theorem Part.startDebounce_queueHolds (i : Input) (p : Part) : p.QueueHolds (p.startDebounce i) := by
  intro h
  unfold Part.startDebounce; (repeat' split) <;> simp [h]

@[simp] theorem Part.edge_queueHolds (i : Input) (level : Bool) (p : Part) : p.QueueHolds (p.edge i level) := by
  intro h
  unfold Part.edge
  dsimp only
  (repeat' split) <;> first | exact h | exact Part.startDebounce_queueHolds _ _ h

@[simp] theorem Part.toDigital_queueHolds (p : Part) : p.QueueHolds p.toDigital := fun h => by
  simp [Part.toDigital, h]

@[simp] theorem Part.configureLines_queueHolds (ptt call emerg batt : InputConfig) (mode : BattMode) (p : Part) :
    p.QueueHolds (p.configureLines ptt call emerg batt mode) := by
  intro h
  have hmarks (q : Part) : q.QueueHolds ((((q.judgeMark .ptt).judgeMark .call).judgeMark .emerg).judgeMark .batt) :=
    fun hq => Part.judgeMark_queueHolds _ _ (Part.judgeMark_queueHolds _ _
      (Part.judgeMark_queueHolds _ _ (Part.judgeMark_queueHolds _ _ hq)))
  have hchanged := Part.activeChange_queueHolds .emerg p.lines.emerg.active _
    (Part.activeChange_queueHolds .call p.lines.call.active _
      (Part.activeChange_queueHolds .ptt p.lines.ptt.active (p.configured ptt call emerg batt mode) h))
  rw [Part.configureLines_eq]
  unfold Part.lineChanges
  dsimp only
  split
  · simpa [Part.toAnalog] using hmarks _ hchanged
  · have hbatt := hmarks _ (Part.activeChange_queueHolds .batt p.lines.batt.active _ hchanged)
    split
    · exact Part.toDigital_queueHolds _ hbatt
    · exact hbatt

/-! ### The other events -/

@[simp] theorem Part.roundExpiry_queueHolds (p : Part) : p.QueueHolds p.roundExpiry := fun h => by
  simp [Part.roundExpiry, h]

@[simp] theorem Part.listenExpiry_queueHolds (g : Gap) (p : Part) : p.QueueHolds (p.listenExpiry g) := by
  intro h
  unfold Part.listenExpiry; split <;> simp [h]

@[simp] theorem Part.batteryDone_queueHolds (judged : Bool) (code : Byte) (p : Part) :
    p.QueueHolds (p.batteryDone judged code) := by
  intro h
  unfold Part.batteryDone; split <;> simp [h]

@[simp] theorem Part.intervalExpiry_queueHolds (p : Part) : p.QueueHolds p.intervalExpiry := by
  intro h
  unfold Part.intervalExpiry; dsimp only; split <;> simp [h]

@[simp] theorem Part.beaconWaitExpiry_queueHolds (p : Part) : p.QueueHolds p.beaconWaitExpiry := by
  intro h
  unfold Part.beaconWaitExpiry; split <;> simp [h]

@[simp] theorem Part.grantWaitExpiry_queueHolds (p : Part) : p.QueueHolds p.grantWaitExpiry := by
  intro h
  unfold Part.grantWaitExpiry; (repeat' split) <;> simp [h]

end Sys2Proof.Machine
end

section
/-! SUPPORT. The link stays sound through every command (R182, R190, R191, R193): the answers of the host commands, the
receiver and its buffer, the resets, and from these each event. The statement O59. -/

namespace Sys2Proof.Machine

/-! ### The host commands -/

@[simp] theorem Part.storeParam_link (q : Param) (v : Int) (p : Part) : (p.storeParam q v).link = p.link := by
  unfold Part.storeParam; dsimp only; split <;> rfl

theorem Part.sitePut_queueHolds (site channel : Nat) (bias : Int) (p : Part) :
    p.QueueHolds (p.sitePut site channel bias).part := by
  intro h
  unfold Part.sitePut
  dsimp only
  split; · exact h
  split
  · split; · exact h
    split; · exact h
    unfold Part.putExisting
    dsimp only
    split <;> simp [h]
  · split
    · exact h
    · rename_i hroom
      simp [Part.makeRoom_queueHolds hroom h]

/-- The answers leave at most 16 notices queued, whatever the command. -/
theorem answerOfKind_queueHolds {kind : Byte} {f : List Byte → Part → Answer} (hf : answerOfKind kind = some f)
    (args : List Byte) (p : Part) : p.QueueHolds (f args p).part := by
  intro h
  unfold answerOfKind at hf
  split at hf <;> cases hf
  · unfold answerInfo; split <;> exact h
  · unfold answerParamSet; (repeat' split) <;> simp [h]
  · unfold answerParamGet; (repeat' split) <;> exact h
  · unfold answerIdentity; (repeat' split) <;> exact h
  · unfold answerSitePut; split <;> [exact Part.sitePut_queueHolds _ _ _ _ h; exact h]
  · unfold answerSiteDrop Part.siteDrop Part.dropSite; (repeat' split) <;> simp [h]
  · unfold answerSiteGet; dsimp only; (repeat' split) <;> simp [h]
  · unfold answerSiteList; (repeat' split) <;> simp [h]
  · unfold answerRun Part.runEngine; (repeat' split) <;> simp [h]
  · unfold answerHalt Part.haltEngine; (repeat' split) <;> simp [h]
  · unfold answerStep Part.stepEngine Part.beginStep; (repeat' split) <;> simp [h]
  · unfold answerContinue Part.continueEngine Part.continueFrom; (repeat' split) <;> simp [h]
  · unfold answerWatchSet Part.setWatch; (repeat' split) <;> exact h
  · unfold answerWatchClear Part.setWatch; (repeat' split) <;> exact h
  · unfold answerMove Part.moveTo; (repeat' split) <;> simp [h]
  · unfold answerAirIn; (repeat' split) <;> simp [h]
  · unfold answerAirSent Part.airSent; (repeat' split) <;> simp [h]
  · unfold answerLinesSet; (repeat' split) <;> simp [h]
  · unfold answerLinesRead; split <;> exact h
  · unfold answerRequest; (repeat' split) <;> simp [h]
  · unfold answerSignOff Part.beginSignOff; dsimp only; (repeat' split) <;> simp [h]
  · unfold answerStatus; split <;> exact h
  · unfold answerNotices; (repeat' split) <;> exact h
  · unfold answerReset; (repeat' split) <;> exact h

/-- An answer leaves TRANSMIT enabled: only NOTICES changes the enable set, and it sets TRANSMIT's bit (R190). -/
theorem answerOfKind_transmits {kind : Byte} {f : List Byte → Part → Answer} (hf : answerOfKind kind = some f)
    (args : List Byte) {p : Part} (h : p.link.enabled.getLsbD 4 = true) :
    (f args p).part.link.enabled.getLsbD 4 = true := by
  have kept {q : Part} (hq : q.link.enabled = p.link.enabled) : q.link.enabled.getLsbD 4 = true := by rwa [hq]
  unfold answerOfKind at hf
  split at hf <;> cases hf
  · exact kept (answerInfo_sameSettings args p).enabled
  · exact kept ((answerParamSet_settingsBy [] args p).enabled nofun)
  · exact kept (answerParamGet_sameSettings args p).enabled
  · exact kept ((answerIdentity_settingsBy [] args p).enabled nofun)
  · exact kept (answerSitePut_sameSettings args p).enabled
  · exact kept (answerSiteDrop_sameSettings args p).enabled
  · exact kept (answerSiteGet_sameSettings args p).enabled
  · exact kept (answerSiteList_sameSettings args p).enabled
  · exact kept (answerRun_sameSettings args p).enabled
  · exact kept (answerHalt_sameSettings args p).enabled
  · exact kept (answerStep_sameSettings args p).enabled
  · exact kept (answerContinue_sameSettings args p).enabled
  · exact kept ((answerWatchSet_settingsBy [] args p).enabled nofun)
  · exact kept ((answerWatchClear_settingsBy [] args p).enabled nofun)
  · exact kept (answerMove_sameSettings args p).enabled
  · exact kept (answerAirIn_sameSettings args p).enabled
  · exact kept (answerAirSent_sameSettings args p).enabled
  · exact kept ((answerLinesSet_settingsBy [] args p).enabled nofun)
  · exact kept (answerLinesRead_sameSettings args p).enabled
  · exact kept (answerRequest_sameSettings args p).enabled
  · exact kept (answerSignOff_sameSettings args p).enabled
  · exact kept (answerStatus_sameSettings args p).enabled
  · unfold answerNotices
    (repeat' split)
    · exact h
    · simp [Part.ok, enableSet]
    · exact h
  · exact kept (answerReset_sameSettings args p).enabled

theorem Part.queueSound_iff (p : Part) :
    p.queueSound = true ↔ p.link.notices.length ≤ 16 ∧ p.link.enabled.getLsbD 4 = true := by
  simp [Part.queueSound]

/-- What is answered to a record or a framing error leaves the queue sound. -/
theorem answerItem_queueSound (item : RxItem) {p : Part} (h : p.queueSound = true) :
    (answerItem item p).1.queueSound = true := by
  cases item with
  | error cause => exact h
  | frame kind payload =>
    simp only [answerItem]
    split
    · rename_i f hf
      unfold answerCommand
      split
      · exact h
      split
      · exact h
      · rw [Part.queueSound_iff] at h ⊢
        exact ⟨answerOfKind_queueHolds hf _ _ h.1, answerOfKind_transmits hf _ h.2⟩
    · exact h

/-! ### Interpretations and bytes -/

/-- The part's link is sound: its receiver and its notice queue (R182, R190, R191). -/
def Part.linkSound (p : Part) : Prop := p.receiverSound = true ∧ p.queueSound = true

theorem Part.receiverSound_of_empty {p : Part} (h : p.link.buffer = none) : p.receiverSound = true := by
  simp [Part.receiverSound, h]

/-- The receiver side of the link, and the reply slot, as they were. -/
abbrev Part.ReceiverStands (p q : Part) : Prop :=
  q.link.buffer = p.link.buffer ∧ q.link.reply = p.link.reply ∧ q.link.rx = p.link.rx ∧
  q.link.gapTimer = p.link.gapTimer

theorem Part.ReceiverStands.receiverSound {p q : Part} (h : p.ReceiverStands q) :
    q.receiverSound = p.receiverSound := by
  obtain ⟨hbuffer, hreply, hrx, htimer⟩ := h
  simp only [Part.receiverSound, hbuffer, hreply, hrx, htimer]

/-- An operation that leaves the receiver and the enable set alone and has the queue hold keeps the link sound. -/
theorem Part.linkSound_of {p q : Part} (hr : p.ReceiverStands q) (he : q.link.enabled = p.link.enabled)
    (hq : p.QueueHolds q) (h : p.linkSound) : q.linkSound := by
  obtain ⟨hreceiver, hqueue⟩ := h
  rw [Part.queueSound_iff] at hqueue
  exact ⟨hr.receiverSound.trans hreceiver, (Part.queueSound_iff q).2 ⟨hq hqueue.1, he ▸ hqueue.2⟩⟩

/-- The transmitter takes a notice out of the queue or leaves it (R185). -/
@[simp] theorem Part.startSending_queueHolds (p : Part) : p.QueueHolds p.startSending := by
  intro h
  unfold Part.startSending
  (repeat' split)
  · exact h
  · rename_i hnotices; rw [hnotices] at h; exact Nat.le_of_succ_le h
  · exact h
  · exact h

@[simp] theorem Part.startSending_receiver (p : Part) :
    p.startSending.link.buffer = p.link.buffer ∧ p.startSending.link.rx = p.link.rx ∧
      p.startSending.link.gapTimer = p.link.gapTimer ∧ p.startSending.link.enabled = p.link.enabled := by
  unfold Part.startSending; (repeat' split) <;> simp

theorem Part.finish_linkSound {p : Part} (h : p.linkSound) : p.finish.linkSound := by
  refine Part.linkSound_of ?_ (Part.finish_sameSettings p).enabled ?_ h
  · simp [Part.ReceiverStands, Part.finish]
  · intro hq
    exact Part.startSending_queueHolds _ (Part.endStepRound_queueHolds p hq)

/-- After an interpretation the receive buffer is empty, so the receiver is sound whatever it was (R182). -/
theorem Part.placeReply_linkSound (r : Reply) {p : Part} (h : p.queueSound = true) : (p.placeReply r).linkSound :=
  Part.finish_linkSound ⟨Part.receiverSound_of_empty rfl, h⟩

/-- A record is discarded, waits behind the full reply slot with the receiver in HUNT, or is interpreted (R182). -/
theorem Part.interpret_linkSound {p : Part} {item : RxItem} {f : Part → Part × Reply}
    (hf : p.queueSound = true → (f p).1.queueSound = true) (h : p.linkSound) : (p.interpret item f).linkSound := by
  obtain ⟨hreceiver, hqueue⟩ := h
  unfold Part.interpret
  split
  · exact ⟨hreceiver, hqueue⟩
  split
  · rename_i hreply
    exact ⟨by simpa [Part.receiverSound, Part.keepRecord] using hreply, hqueue⟩
  · exact Part.placeReply_linkSound _ (hf hqueue)

/-- While something stands in the receive buffer, the receiver is in HUNT with its gap timer stopped (R182). -/
def Part.huntsBehindRecord (p : Part) : Prop :=
  p.link.buffer.isSome = true → p.link.rx = .hunt ∧ p.link.gapTimer = none

theorem Part.huntsBehindRecord_of_sound {p : Part} (h : p.receiverSound = true) : p.huntsBehindRecord := by
  intro hbuffer
  simp only [Part.receiverSound, Bool.or_eq_true, Bool.and_eq_true, beq_iff_eq, Option.isNone_iff_eq_none] at h
  obtain hempty | ⟨⟨-, hrx⟩, htimer⟩ := h
  · simp [hempty] at hbuffer
  · exact ⟨hrx, htimer⟩

/-- What is due is interpreted, and what stays in the buffer stays behind a full reply slot (R182). -/
theorem Part.interpretDue_linkSound {p : Part} (hr : p.huntsBehindRecord) (hq : p.queueSound = true) :
    p.interpretDue.linkSound := by
  cases hbuffer : p.link.buffer with
  | none =>
    rw [Part.interpretDue_empty hbuffer]
    exact ⟨Part.receiverSound_of_empty hbuffer, hq⟩
  | some item =>
    cases hreply : p.link.reply with
    | none =>
      simp only [Part.interpretDue, hreply, hbuffer]
      exact Part.interpret_linkSound (answerItem_queueSound item) ⟨Part.receiverSound_of_empty rfl, hq⟩
    | some r =>
      obtain ⟨hrx, htimer⟩ := hr (by simp [hbuffer])
      rw [Part.interpretDue_full hreply]
      exact ⟨by simp [Part.receiverSound, hreply, hrx, htimer], hq⟩

/-- What a byte brings into the receive buffer leaves the receiver in HUNT with its gap timer stopped (R181). -/
theorem Part.receive_huntsBehindRecord (b : Byte) {p : Part} (h : p.receiverSound = true) :
    (p.receive b).huntsBehindRecord := by
  by_cases hbuffer : p.link.buffer.isSome = true
  · rw [Part.receive, if_pos hbuffer]
    exact Part.huntsBehindRecord_of_sound h
  · unfold Part.receive Part.endFrame Part.framingError
    (repeat' split) <;> first | exact fun hsome => absurd hsome hbuffer | exact fun _ => ⟨rfl, rfl⟩

/-- A byte on LRX does not reach the queue (R181). -/
theorem Part.receive_queueSound (b : Byte) (p : Part) : (p.receive b).queueSound = p.queueSound := by
  unfold Part.receive Part.endFrame Part.framingError
  (repeat' split) <;> rfl

/-! ### Resets and the end of a record -/

/-- RESET ENGINE keeps the link, with ENGINE_STATE queued behind its notices (R194). -/
theorem Part.resetEngine_queueSound {p : Part} (h : p.queueSound = true) : p.resetEngine.queueSound = true := by
  have hlink : p.engineReset.link = p.link := by simp [Part.engineReset]
  rw [Part.queueSound_iff] at h ⊢
  rw [Part.resetEngine_eq]
  split
  · rwa [hlink]
  · rw [← hlink] at h
    exact ⟨Part.queueNotice_queueHolds _ _ h.1, by simpa using h.2⟩

theorem Part.resetWhole_queueSound (p : Part) : p.resetWhole.queueSound = true := by
  obtain ⟨-, -, -, hqueue⟩ := resetIsSound
  exact hqueue

theorem Part.takeReset_queueSound {p : Part} (h : p.queueSound = true) : p.takeReset.queueSound = true := by
  unfold Part.takeReset
  split
  · exact Part.resetEngine_queueSound h
  · exact p.resetWhole_queueSound
  · exact h

/-- A reset leaves the receiver's side of the link: RESET ENGINE all of it, RESET ALL by its own rule (R194). -/
theorem Part.takeReset_receiver (p : Part) :
    p.takeReset.link.rx = p.link.rx ∧ p.takeReset.link.gapTimer = p.link.gapTimer := by
  unfold Part.takeReset
  split
  · rw [Part.resetEngine_eq]
    split <;> simp [Part.engineReset]
  · exact ⟨rfl, rfl⟩
  · exact ⟨rfl, rfl⟩

theorem Part.takeReset_huntsBehindRecord {p : Part} (h : p.huntsBehindRecord) : p.takeReset.huntsBehindRecord := by
  obtain ⟨hrx, htimer⟩ := p.takeReset_receiver
  unfold Part.huntsBehindRecord
  rwa [hrx, htimer, Part.takeReset_buffer]

theorem Part.recordSent_linkSound {p : Part} (h : p.linkSound) : p.recordSent.linkSound := by
  obtain ⟨hreceiver, hqueue⟩ := h
  have hhunts : p.huntsBehindRecord := Part.huntsBehindRecord_of_sound hreceiver
  unfold Part.recordSent
  split
  · exact ⟨hreceiver, hqueue⟩
  · exact Part.finish_linkSound
      (Part.interpretDue_linkSound (Part.takeReset_huntsBehindRecord (by exact hhunts))
        (Part.takeReset_queueSound hqueue))
  · exact Part.finish_linkSound ⟨hreceiver, hqueue⟩

/-! ### Levels taken -/

theorem Part.judgeMark_receiver (i : Input) (p : Part) : p.ReceiverStands (p.judgeMark i) := by
  unfold Part.judgeMark
  dsimp only
  (repeat' split) <;> simp [Part.ReceiverStands]

@[simp] theorem Part.takeLevel_receiver (i : Input) (p : Part) : p.ReceiverStands (p.takeLevel i) := by
  have hmark (q : Part) := Part.judgeMark_receiver i q
  unfold Part.takeLevel
  dsimp only
  (repeat' split) <;> simp [Part.ReceiverStands, hmark]

theorem Part.edge_receiver (i : Input) (level : Bool) (p : Part) : p.ReceiverStands (p.edge i level) := by
  unfold Part.edge Part.startDebounce
  dsimp only
  (repeat' split) <;> simp [Part.ReceiverStands]

/-! ### Every command -/

/-- A step that leaves the link sound where it was sound. -/
def KeepsLink (s : State) (o : Host.Outcome State Fault Refusal) : Prop :=
  ∃ t, o = .next t ∧ (s.part.linkSound → t.part.linkSound)

theorem keepsLink_same (s : State) : KeepsLink s (.next s) := ⟨s, rfl, id⟩

theorem keepsLink_of {s : State} {q : Part} (h : s.part.linkSound → q.linkSound) :
    KeepsLink s (.next (s.withPart q)) := ⟨_, rfl, h⟩

/-- An event whose operation keeps what only host commands change. -/
theorem keepsLink_of_keeps {s : State} {q : Part} (hk : s.part.Keeps q) (hq : s.part.QueueHolds q) :
    KeepsLink s (.next (s.withPart q)) :=
  keepsLink_of (Part.linkSound_of (by simp [Part.ReceiverStands, hk]) (by simp [hk]) hq)

theorem keepsLink_finish {s : State} {q : Part} (h : KeepsLink s (.next (s.withPart q))) :
    KeepsLink s (.next (s.withPart q.finish)) := by
  obtain ⟨t, ht, hk⟩ := h
  cases ht
  exact keepsLink_of (fun hs => Part.finish_linkSound (hk hs))

/-- A record's row, be it a command or UNKNOWN, interprets it (R183). -/
theorem keepsLink_record (kind : Byte) (payload : List Byte) (s : State) :
    KeepsLink s (exec (rowOfRecord kind payload) s) := by
  rw [exec_rowOfRecord]
  exact keepsLink_of (Part.interpret_linkSound (answerItem_queueSound _))

/-- Each of the 48 commands keeps the link sound. -/
theorem exec_keepsLink (c : Instr) (s : State) : KeepsLink s (exec c s) := by
  cases c with
  | info payload => exact keepsLink_record 0x01 payload s
  | paramSet payload => exact keepsLink_record 0x02 payload s
  | paramGet payload => exact keepsLink_record 0x03 payload s
  | identity payload => exact keepsLink_record 0x04 payload s
  | sitePut payload => exact keepsLink_record 0x05 payload s
  | siteDrop payload => exact keepsLink_record 0x06 payload s
  | siteGet payload => exact keepsLink_record 0x07 payload s
  | siteList payload => exact keepsLink_record 0x08 payload s
  | run payload => exact keepsLink_record 0x09 payload s
  | halt payload => exact keepsLink_record 0x0A payload s
  | step payload => exact keepsLink_record 0x0B payload s
  | cont payload => exact keepsLink_record 0x0C payload s
  | watchSet payload => exact keepsLink_record 0x0D payload s
  | watchClear payload => exact keepsLink_record 0x0E payload s
  | move payload => exact keepsLink_record 0x0F payload s
  | airIn payload => exact keepsLink_record 0x10 payload s
  | airSent payload => exact keepsLink_record 0x11 payload s
  | linesSet payload => exact keepsLink_record 0x12 payload s
  | linesRead payload => exact keepsLink_record 0x13 payload s
  | request payload => exact keepsLink_record 0x14 payload s
  | signOff payload => exact keepsLink_record 0x15 payload s
  | status payload => exact keepsLink_record 0x16 payload s
  | notices payload => exact keepsLink_record 0x17 payload s
  | reset payload => exact keepsLink_record 0x18 payload s
  | frameError cause => exact keepsLink_of (Part.interpret_linkSound id)
  | unknown kind payload =>
    show KeepsLink s (execUnknown kind payload s)
    unfold execUnknown
    split
    · exact keepsLink_same s
    · exact keepsLink_of (Part.interpret_linkSound id)
  | lrxByte b =>
    exact keepsLink_of (fun ⟨hreceiver, hqueue⟩ => Part.interpretDue_linkSound
      (Part.receive_huntsBehindRecord b hreceiver) ((Part.receive_queueSound b _).trans hqueue))
  | linkGapExpiry =>
    show KeepsLink s (execLinkGapExpiry s)
    unfold execLinkGapExpiry
    split
    · exact keepsLink_of (fun ⟨_, hqueue⟩ => Part.interpretDue_linkSound (fun _ => ⟨rfl, rfl⟩) hqueue)
    · exact keepsLink_same s
  | recordSent => exact keepsLink_of Part.recordSent_linkSound
  | powerOn | resetLine => exact keepsLink_of (fun _ => ⟨rfl, s.part.resetWhole_queueSound⟩)
  | inputEdge i level =>
    show KeepsLink s (execInputEdge i level s)
    unfold execInputEdge
    split
    · exact keepsLink_same s
    · exact keepsLink_finish (keepsLink_of (Part.linkSound_of (Part.edge_receiver i level _)
        (Part.edge_sameSettings i level _).enabled (Part.edge_queueHolds i level _)))
  | debounceExpiry i =>
    show KeepsLink s (execDebounceExpiry i s)
    unfold execDebounceExpiry
    split
    · exact keepsLink_finish (keepsLink_of (Part.linkSound_of (Part.takeLevel_receiver i _)
        (Part.takeLevel_sameSettings i _).enabled (Part.takeLevel_queueHolds i _)))
    · exact keepsLink_same s
  | shiftLatchDone | lockBlankEnd _ | lock | lockWaitExpiry | settleExpiry | roundExpiry | sampleTimerExpiry
  | rssiConversionDone _ | listenExpiry | batteryTimerExpiry | batteryConversionDone _ | intervalExpiry
  | beaconWaitExpiry | grantWaitExpiry | txWaitExpiry =>
    simp only [exec, execShiftLatchDone, execLockBlankEnd, execLock, execLockWaitExpiry, execSettleExpiry,
      execRoundExpiry, execSampleTimerExpiry, execRssiConversionDone, execListenExpiry, execBatteryTimerExpiry,
      execBatteryConversionDone, execIntervalExpiry, execBeaconWaitExpiry, execGrantWaitExpiry, execTxWaitExpiry]
    (repeat' split) <;> first
      | exact keepsLink_same s
      | exact keepsLink_finish (keepsLink_of_keeps (by simp [Part.Keeps]) (fun h => by simp [h]))
      | exact keepsLink_of_keeps (by simp [Part.Keeps]) (fun h => by simp [h])

/-- Settles O59: each command keeps the receiver and the queue sound, by `exec_keepsLink`. -/
theorem stepsKeepTheLinkSound : Obligations.StepsKeepTheLinkSound := by
  unfold Obligations.StepsKeepTheLinkSound
  intro s t hreceiver hqueue ht
  unfold step at ht
  split at ht
  · rename_i c rest _
    obtain ⟨u, hu, hk⟩ := exec_keepsLink c { s with pending := rest }
    rw [hu] at ht
    cases ht
    exact hk ⟨hreceiver, hqueue⟩
  · cases ht
    exact ⟨hreceiver, hqueue⟩

end Sys2Proof.Machine
end

section
/-! SUPPORT. The host commands of the link interface (R186 to R190, R194): INFO, PARAM SET and PARAM GET, STATUS,
NOTICES and RESET. The statements O4, O12, O14, O15 and O16. -/

namespace Sys2Proof.Machine

/-! ### A command's reply -/

/-- A command that is heard leaves the part of its answer and the reply with its code and data (R182, R184). -/
theorem next_command_answered (s : State) {q : Part} {code : ReplyCode} {kind tag : Byte} {args data : List Byte}
    {f : List Byte → Part → Answer} (htag : tag ≠ 0) (h : s.part.hears = true) (hf : f args s.part = ⟨q, code, data⟩)
    (hlive : q.stepRoundLive = true) (hdriven : q.outputsDriven = true) :
    (Host.Outcome.next (s.withPart (s.part.command kind (tag :: args) f)) : Host.Outcome State Fault Refusal) =
      .next (s.withPart (q.replied ⟨kind + 0x80, tag, code, data⟩)) := by
  rw [Part.command_of_hears h htag, hf, Part.placeReply_eq _ hlive hdriven]

/-- A command that only reports changes nothing but for its reply. -/
theorem next_command_reported (s : State) {kind tag : Byte} {args data : List Byte} {f : List Byte → Part → Answer}
    (htag : tag ≠ 0) (h : s.part.hears = true) (hf : f args s.part = s.part.ok data) :
    (Host.Outcome.next (s.withPart (s.part.command kind (tag :: args) f)) : Host.Outcome State Fault Refusal) =
      .next (s.withPart (s.part.replied ⟨kind + 0x80, tag, .ok, data⟩)) :=
  next_command_answered s htag h hf (Part.hears_live h) (Part.hears_driven h)

/-! ### INFO -/

/-- Settles O4: INFO's answer, evaluated. -/
theorem infoRepliesAndChangesNothing : Obligations.InfoRepliesAndChangesNothing := by
  unfold Obligations.InfoRepliesAndChangesNothing
  intro s tag htag h
  exact next_command_reported s (kind := 0x01) (f := answerInfo) htag h rfl

/-! ### STATUS -/

theorem flagByte_two (a b : Bool) :
    flagByte [a, b] = byte ((if a = true then 1 else 0) + (if b = true then 2 else 0)) := by
  cases a <;> cases b <;> rfl

/-- The freeze cause and the slot of STATUS (R196). -/
theorem EngineState.causeBytes_eq (e : EngineState) :
    e.causeBytes =
      [match e with | .frozen (.watch _) => 1 | .frozen .tune => 2 | _ => 0,
       match e with | .frozen (.watch slot) => byte slot | _ => 0] := by
  cases e with
  | frozen cause => cases cause <;> rfl
  | halted | running => rfl

/-- The pending candidate of STATUS, or site 0, count 0 and cause 0xFF (R189, R196). -/
theorem candidateBytes_eq (c : Option Candidate) :
    candidateBytes c =
      [byte ((c.map Candidate.site).getD 0 / 256), byte ((c.map Candidate.site).getD 0),
       byte ((c.map Candidate.count).getD 0), byte ((c.map (fun c => c.cause.code)).getD 255)] := by
  cases c <;> rfl

/-- Settles O14: the 18 bytes in their order. -/
theorem statusReportsAndChangesNothing : Obligations.StatusReportsAndChangesNothing := by
  unfold Obligations.StatusReportsAndChangesNothing
  intro s tag htag h
  refine next_command_reported s (kind := 0x16) (f := answerStatus) htag h ?_
  simp only [answerStatus, Part.statusBytes, EngineState.causeBytes_eq, candidateBytes_eq, flagByte_two, boolByte,
    bytes16, List.cons_append, List.nil_append] <;> rfl

/-! ### NOTICES -/

/-- The enable set in force has TRANSMIT's bit and the bits given (R190). -/
theorem enableSet_getLsbD (e1 e0 : Byte) {n : Nat} (h : n < 16) :
    (enableSet e1 e0).getLsbD n = (decide (n = 4) || (BitVec.ofNat 16 (u16 e1 e0)).getLsbD n) := by
  have htransmit : (0x0010 : BitVec 16).getLsbD n = decide (n = 4) := by interval_cases n <;> rfl
  rw [enableSet, BitVec.getLsbD_or, htransmit, Bool.or_comm]

/-- Settles O15: `enableSet` is the set in force. -/
theorem noticesSetsTheEnableSet : Obligations.NoticesSetsTheEnableSet := by
  unfold Obligations.NoticesSetsTheEnableSet
  intro s tag e1 e0 htag h
  refine ⟨fun hset => ⟨enableSet e1 e0, fun n hn => enableSet_getLsbD e1 e0 hn, ?_⟩, fun hset => ?_⟩
  · exact next_command_taken s (kind := 0x17) (f := answerNotices) htag h (if_neg (by omega))
      (Part.hears_live h) (Part.hears_driven h)
  · exact next_command_refused s (kind := 0x17) (f := answerNotices) htag h (if_pos hset)

/-! ### RESET -/

theorem scopeOfCode_none {n : Nat} (h : 2 ≤ n) : scopeOfCode n = none := by
  unfold scopeOfCode
  split
  · omega
  · omega
  · rfl

/-- Settles O16: the reset is scheduled by its scope, and takes effect when the reply has been sent. -/
theorem resetIsScheduled : Obligations.ResetIsScheduled := by
  unfold Obligations.ResetIsScheduled
  intro s tag scope htag h
  refine ⟨fun sc hsc => ?_, fun hsc => ?_⟩
  · have htaken : answerReset [scope] s.part = ({ s.part with link.resetDue := some sc } : Part).ok [] := by
      cases sc <;> subst hsc <;> rfl
    exact next_command_taken s (kind := 0x18) htag h htaken (Part.hears_live h) (Part.hears_driven h)
  · have hrefused : answerReset [scope] s.part = s.part.refuse .badArg := by
      simp only [answerReset, scopeOfCode_none hsc]
    exact next_command_refused s (kind := 0x18) htag h hrefused

/-! ### PARAM SET and PARAM GET -/

/-- A parameter is found by the byte of its ID (R188). -/
@[simp] theorem paramOfCode_byte (q : Param) : paramOfCode (byte q.code).toNat = some q := by
  cases q <;> rfl

/-- A byte that is no parameter's ID finds none (R188). -/
theorem paramOfCode_none {id : Byte} (h : ∀ q : Param, byte q.code ≠ id) : paramOfCode id.toNat = none := by
  refine List.find?_eq_none.2 (fun q _ hq => h q ?_)
  rw [eq_of_beq hq, byte_of_toNat]

/-- What a parameter's storing does to the counters of supervision (R110). -/
theorem Part.storeParam_eq (q : Param) (v : Int) (p : Part) :
    p.storeParam q v =
      { p with
        params := p.params.set q v
        sup.fine := if q = .fadeCount then min p.sup.fine (p.params.set q v).fadeCount else p.sup.fine
        sup.coarse := if q = .lostCount then min p.sup.coarse (p.params.set q v).lostCount else p.sup.coarse } := by
  cases q <;> rfl

/-- A value in the parameter's range reads back (R187, R188). -/
theorem Params.get_set_self (ps : Params) {q : Param} {v : Int} (hlo : q.lo ≤ v) (hhi : v ≤ q.hi) :
    (ps.set q v).get q = v := by
  have hbit (h0 : 0 ≤ v) (h1 : v ≤ 1) : v = 0 ∨ v = 1 := by omega
  cases q
  case calOffset => rfl
  case mode => obtain rfl | rfl := hbit hlo hhi <;> rfl
  case superMode => obtain rfl | rfl := hbit hlo hhi <;> rfl
  all_goals exact Int.toNat_of_nonneg (le_trans (by decide) hlo)

/-- No other parameter moves (R187). -/
theorem Params.get_set_other (ps : Params) {q q' : Param} (v : Int) (h : q' ≠ q) : (ps.set q v).get q' = ps.get q' := by
  cases q <;> cases q' <;> first | rfl | exact absurd rfl h

theorem answerParamSet_known (q : Param) (v1 v0 : Byte) (p : Part) :
    answerParamSet [byte q.code, v1, v0] p =
      ⟨p.storeParam q (q.hold (s16 v1 v0)), if q.hold (s16 v1 v0) = s16 v1 v0 then .ok else .clamped,
        byte q.code :: signedBytes16 (q.hold (s16 v1 v0))⟩ := by
  simp only [answerParamSet, paramOfCode_byte]

theorem answerParamSet_unknown {id : Byte} (h : ∀ q : Param, byte q.code ≠ id) (v1 v0 : Byte) (p : Part) :
    answerParamSet [id, v1, v0] p = p.refuse .badArg := by
  simp only [answerParamSet, paramOfCode_none h]

theorem answerParamGet_known (q : Param) (p : Part) :
    answerParamGet [byte q.code] p = p.ok (byte q.code :: signedBytes16 (p.params.get q)) := by
  simp only [answerParamGet, paramOfCode_byte]

theorem answerParamGet_unknown {id : Byte} (h : ∀ q : Param, byte q.code ≠ id) (p : Part) :
    answerParamGet [id] p = p.refuse .badArg := by
  simp only [answerParamGet, paramOfCode_none h]

/-- Settles O12: the answers of the two commands by the table, and the table's values read back. -/
theorem parametersSetAndReported : Obligations.ParametersSetAndReported := by
  unfold Obligations.ParametersSetAndReported
  refine ⟨fun s tag v1 v0 q htag h => ?_, fun s tag q htag h => ?_,
    fun s tag id v1 v0 htag hid => ⟨fun h => ?_, fun h => ?_⟩,
    fun ps q v hlo hhi => ⟨ps.get_set_self hlo hhi, fun q' hq => ps.get_set_other v hq⟩⟩
  · exact next_command_answered s (kind := 0x02) htag h
      (by rw [answerParamSet_known, Part.storeParam_eq]; rfl)
      (Part.hears_live h) (Part.hears_driven h)
  · exact next_command_reported s (kind := 0x03) htag h (answerParamGet_known q s.part)
  · exact next_command_refused s (kind := 0x02) htag h (answerParamSet_unknown hid v1 v0 s.part)
  · exact next_command_refused s (kind := 0x03) htag h (answerParamGet_unknown hid s.part)

end Sys2Proof.Machine
end

section
/-! SUPPORT. Records and framing errors as they arrive (R180 to R183): what interprets them, what they wait for, how
they are judged, and how their bytes are received. The statements O5, O6, O7 and O8. -/

namespace Sys2Proof.Machine

/-! ### The row of what stands in the receive buffer -/

/-- The row that interprets what the receive buffer can hold (R183). -/
def RxItem.row : RxItem → Instr
  | .frame kind payload => rowOfRecord kind payload
  | .error cause => .frameError cause

/-- Whatever has arrived, its row does what the interpretation of the receive buffer would do with it (R182, R183). -/
theorem exec_row (item : RxItem) (s : State) :
    exec item.row s = .next (s.withPart (s.part.interpret item (answerItem item))) := by
  cases item with
  | frame kind payload => exact exec_rowOfRecord kind payload s
  | error cause => rfl

/-- With the reply slot full it waits in the receive buffer (R182). -/
theorem Part.interpret_waits {p : Part} {item : RxItem} {f : Part → Part × Reply} (hbuffer : p.link.buffer = none)
    (hreply : p.link.reply.isSome = true) : p.interpret item f = p.keepRecord item := by
  simp [Part.interpret, hbuffer, hreply]

/-- With the receive buffer occupied it is lost (R182). -/
theorem Part.interpret_lost {p : Part} {item : RxItem} {f : Part → Part × Reply}
    (hbuffer : p.link.buffer.isSome = true) : p.interpret item f = p := by
  simp [Part.interpret, hbuffer]

/-- With the reply slot empty, what stands in the receive buffer is interpreted as if it arrived now (R182). -/
theorem Part.interpretDue_waiting {p : Part} {item : RxItem} (hreply : p.link.reply = none)
    (hbuffer : p.link.buffer = some item) :
    p.interpretDue = ({ p with link.buffer := none } : Part).interpret item (answerItem item) := by
  simp only [Part.interpretDue, hreply, hbuffer]

/-- A due interpretation of what waited ends its step (R182). -/
theorem Part.interpretDue_finish {p : Part} {item : RxItem} (hreply : p.link.reply = none)
    (hbuffer : p.link.buffer = some item) : p.interpretDue.finish = p.interpretDue := by
  rw [Part.interpretDue_waiting hreply hbuffer]
  simp only [Part.interpret, hreply, Option.isSome_none, Bool.false_eq_true, if_false]
  exact Part.placeReply_finish _ _

/-! ### The wait for the reply slot -/

/-- The end of a reply with no reset due empties the reply slot and has what waits interpreted (R182, R185). -/
theorem Part.recordSent_reply {p : Part} {bytes : List Byte} (htx : p.link.tx = .reply bytes)
    (hdue : p.link.resetDue = none) : p.recordSent = p.replySent.interpretDue.finish := by
  have hreset : p.replySent.takeReset = p.replySent := by simp [Part.takeReset, Part.replySent, hdue]
  unfold Part.recordSent
  rw [htx]
  exact congrArg (fun q => q.interpretDue.finish) hreset

/-- With a record waiting, its interpretation is all that is left of the step (R182, log entry 35). -/
theorem exec_recordSent_waiting {s : State} {item : RxItem} {bytes : List Byte}
    (hbuffer : s.part.link.buffer = some item) (htx : s.part.link.tx = .reply bytes)
    (hdue : s.part.link.resetDue = none) :
    exec .recordSent s = exec item.row (s.withPart { s.part.replySent with link.buffer := none }) := by
  have hsent : s.part.recordSent = s.part.replySent.interpretDue :=
    (Part.recordSent_reply htx hdue).trans (Part.interpretDue_finish rfl hbuffer)
  rw [exec_row, State.withPart_part, State.withPart_withPart]
  show Host.Outcome.next (s.withPart s.part.recordSent) = _
  rw [hsent, Part.interpretDue_waiting (p := s.part.replySent) rfl hbuffer]

/-- Settles O6: a record waits, is lost, or is interpreted at the end of the reply it waited for. -/
theorem recordsWaitForTheReplySlot : Obligations.RecordsWaitForTheReplySlot := by
  unfold Obligations.RecordsWaitForTheReplySlot
  intro item s row
  have hrow : row = item.row := by cases item <;> rfl
  rw [hrow]
  refine ⟨fun hbuffer hreply => ?_, fun hbuffer => ?_, fun bytes hbuffer htx hdue => ?_⟩
  · rw [exec_row, Part.interpret_waits hbuffer hreply]
    rfl
  · rw [exec_row, Part.interpret_lost hbuffer, State.withPart_self]
  · exact exec_recordSent_waiting hbuffer htx hdue

/-! ### The order of the judgement (R183) -/

/-- A command kind has an answer (R183 step 2). -/
theorem exists_answerOfKind {kind : Byte} (h : isCommandKind kind = true) : ∃ f, answerOfKind kind = some f :=
  Option.ne_none_iff_exists'.1 (fun hnone => by simp [not_isCommandKind_of_answerOfKind hnone] at h)

/-- A command's arguments of a length that its kind does not take are refused BAD_ARG (R183 step 4). -/
theorem answerOfKind_unfit {kind : Byte} {f : List Byte → Part → Answer} (hf : answerOfKind kind = some f)
    {args : List Byte} (hfit : argumentsFit kind args = false) (p : Part) : f args p = p.refuse .badArg := by
  unfold answerOfKind at hf
  split at hf <;> cases hf
  all_goals
    rename_i hkind
    rw [argumentsFit, hkind] at hfit
  · unfold answerInfo; split <;> [cases hfit; rfl]
  · unfold answerParamSet; split <;> [cases hfit; rfl]
  · unfold answerParamGet; split <;> [cases hfit; rfl]
  · unfold answerIdentity; split <;> [cases hfit; rfl]
  · unfold answerSitePut; split <;> [cases hfit; rfl]
  · unfold answerSiteDrop; split <;> [cases hfit; rfl]
  · unfold answerSiteGet; split <;> [cases hfit; rfl]
  · unfold answerSiteList; split <;> [cases hfit; rfl]
  · unfold answerRun; split <;> [cases hfit; rfl]
  · unfold answerHalt; split <;> [cases hfit; rfl]
  · unfold answerStep; split <;> [cases hfit; rfl]
  · unfold answerContinue; split <;> [cases hfit; rfl]
  · unfold answerWatchSet; split <;> [cases hfit; rfl]
  · unfold answerWatchClear; split <;> [cases hfit; rfl]
  · unfold answerMove; split <;> [cases hfit; rfl]
  · exact if_neg (by rw [show argumentBytes 16 = (3, 33) from rfl] at hfit; simp [hfit])
  · unfold answerAirSent; split <;> [cases hfit; rfl]
  · unfold answerLinesSet; split <;> [cases hfit; rfl]
  · unfold answerLinesRead; split <;> [cases hfit; rfl]
  · unfold answerRequest; split <;> [cases hfit; rfl]
  · unfold answerSignOff; split <;> [cases hfit; rfl]
  · unfold answerStatus; split <;> [cases hfit; rfl]
  · unfold answerNotices; split <;> [cases hfit; rfl]
  · unfold answerReset; split <;> [cases hfit; rfl]

/-- A command without a tag, or with tag 0, is refused with tag 0 (R183 step 3). -/
theorem answerCommand_untagged {kind : Byte} {payload : List Byte} (h : payload.headD 0 = 0)
    (f : List Byte → Part → Answer) (p : Part) :
    answerCommand kind payload f p = (p, ⟨kind + 0x80, 0, .badArg, []⟩) := by
  cases payload with
  | nil => rfl
  | cons tag args => exact if_pos h

/-- A heard record of a kind with an answer is judged by that answer. -/
theorem exec_command_unchanged {s : State} {kind : Byte} {payload : List Byte} {f : List Byte → Part → Answer}
    {r : Reply} (hf : answerOfKind kind = some f) (h : s.part.hears = true)
    (hanswer : answerCommand kind payload f s.part = (s.part, r)) :
    exec (rowOfRecord kind payload) s = .next (s.withPart (s.part.replied r)) := by
  rw [exec_rowOfRecord_command hf, Part.command, Part.interpret_unchanged h hanswer]

/-- Settles O5: the four steps of R183, each with the part unchanged but for its reply. -/
theorem recordsJudgedInOrder : Obligations.RecordsJudgedInOrder := by
  unfold Obligations.RecordsJudgedInOrder
  refine ⟨fun cause s h => ?_, fun kind payload s hkind h => ⟨Laws.RecordRow.row_unknown payload hkind, ?_⟩,
    fun kind payload s hkind htag h => ?_, fun kind tag args s hkind htag hfit h => ?_⟩
  · show Host.Outcome.next (s.withPart (s.part.interpret (.error cause) (answerFrameError cause))) = _
    rw [Part.interpret_unchanged h rfl]
    cases cause <;> rfl
  · show execUnknown kind payload s = _
    rw [execUnknown, hkind, if_neg (by decide), Part.interpret_unchanged h rfl]
  · obtain ⟨f, hf⟩ := exists_answerOfKind hkind
    exact exec_command_unchanged hf h (answerCommand_untagged htag f s.part)
  · obtain ⟨f, hf⟩ := exists_answerOfKind hkind
    exact exec_command_unchanged hf h (by
      simp only [answerCommand, if_neg htag, answerOfKind_unfit hf hfit, Part.refuse])

/-! ### The receiver's table (R181) -/

/-- The part with its receiver in HUNT and the gap timer stopped. -/
def Part.hunting (p : Part) : Part := { p with link.rx := .hunt, link.gapTimer := none }

/-- What has arrived whole, with the receive buffer empty before it, does what its row does in HUNT (R181, R182). -/
theorem next_arrived {s : State} (hbuffer : s.part.link.buffer = none) (item : RxItem) :
    (Host.Outcome.next (s.withPart ({ s.part.hunting with link.buffer := some item } : Part).interpretDue) :
      Host.Outcome State Fault Refusal) = exec item.row (s.withPart s.part.hunting) := by
  have hempty : { s.part.hunting with link.buffer := none } = s.part.hunting := Part.emptyBuffer_self hbuffer
  rw [exec_row, State.withPart_part, State.withPart_withPart]
  cases hreply : s.part.link.reply with
  | none =>
    rw [Part.interpretDue_waiting (item := item) (by exact hreply) rfl]
    exact congrArg (fun p => Host.Outcome.next (s.withPart (p.interpret item (answerItem item)))) hempty
  | some r =>
    rw [Part.interpretDue_full (r := r) (by exact hreply),
      Part.interpret_waits (by exact hbuffer) (by simp [Part.hunting, hreply])]
    rfl

theorem byteSum_eq_foldr (bytes : List Byte) : byteSum bytes = bytes.foldr (· + ·) 0 := by
  induction bytes with
  | nil => rfl
  | cons b bs ih => simp only [byteSum, List.foldr_cons, ih]

/-- A byte that completes nothing leaves the part as the receiver's table has it (R181). -/
theorem exec_lrxByte_empty {b : Byte} {s : State} (h : (s.part.receive b).link.buffer = none) :
    exec (.lrxByte b) s = .next (s.withPart (s.part.receive b)) :=
  congrArg (fun p => Host.Outcome.next (s.withPart p)) (Part.interpretDue_empty h)

/-- A byte discarded behind an occupied receive buffer (R182). -/
theorem exec_lrxByte_occupied {s : State} (b : Byte) (hbuffer : s.part.link.buffer.isSome = true)
    (hsound : s.part.receiverSound = true) : exec (.lrxByte b) s = .next s := by
  have hreceive : s.part.receive b = s.part := by rw [Part.receive, if_pos hbuffer]
  obtain ⟨r, hreply⟩ : ∃ r, s.part.link.reply = some r := by
    rw [← Option.isSome_iff_exists]
    simp only [Part.receiverSound, Bool.or_eq_true, Bool.and_eq_true] at hsound
    obtain hempty | ⟨⟨hreply, -⟩, -⟩ := hsound
    · simp [Option.isNone_iff_eq_none.1 hempty] at hbuffer
    · exact hreply
  show Host.Outcome.next (s.withPart (s.part.receive b).interpretDue) = _
  rw [hreceive, Part.interpretDue_full hreply, State.withPart_self]

theorem exec_lrxByte_hunt {s : State} (b : Byte) (hbuffer : s.part.link.buffer = none) (hrx : s.part.link.rx = .hunt) :
    exec (.lrxByte b) s =
      if b = 0x7E then .next (s.withPart { s.part with link.rx := .length, link.gapTimer := some 5 })
      else .next s := by
  have hreceive : s.part.receive b =
      if b = 0x7E then { s.part with link.rx := .length, link.gapTimer := some 5 } else s.part := by
    simp [Part.receive, hbuffer, hrx]
  have hempty : (s.part.receive b).link.buffer = none := by rw [hreceive]; split <;> exact hbuffer
  rw [exec_lrxByte_empty hempty, hreceive]
  split <;> rfl

theorem exec_lrxByte_length {s : State} (b : Byte) (hbuffer : s.part.link.buffer = none)
    (hrx : s.part.link.rx = .length) :
    exec (.lrxByte b) s =
      if 1 ≤ b.toNat ∧ b.toNat ≤ 64 then
        .next (s.withPart { s.part with link.rx := .body b.toNat [], link.gapTimer := some 5 })
      else exec (.frameError .length) (s.withPart s.part.hunting) := by
  split
  · rename_i hlength
    have hreceive : s.part.receive b = { s.part with link.rx := .body b.toNat [], link.gapTimer := some 5 } := by
      simp [Part.receive, hbuffer, hrx, hlength]
    rw [exec_lrxByte_empty (by rw [hreceive]; exact hbuffer), hreceive]
  · rename_i hlength
    have hreceive : s.part.receive b = s.part.framingError .length := by
      simp [Part.receive, hbuffer, hrx, hlength]
    show Host.Outcome.next (s.withPart (s.part.receive b).interpretDue) = _
    rw [hreceive]
    exact next_arrived hbuffer (.error .length)

theorem exec_lrxByte_body {s : State} {len : Nat} {bytes : List Byte} (b : Byte) (hbuffer : s.part.link.buffer = none)
    (hrx : s.part.link.rx = .body len bytes) (hshort : bytes.length < len) :
    exec (.lrxByte b) s =
      .next (s.withPart { s.part with link.rx := .body len (bytes ++ [b]), link.gapTimer := some 5 }) := by
  have hreceive : s.part.receive b = { s.part with link.rx := .body len (bytes ++ [b]), link.gapTimer := some 5 } := by
    simp [Part.receive, hbuffer, hrx, hshort]
  rw [exec_lrxByte_empty (by rw [hreceive]; exact hbuffer), hreceive]

theorem exec_lrxByte_check {s : State} {len : Nat} {kind : Byte} {payload : List Byte} (b : Byte)
    (hbuffer : s.part.link.buffer = none) (hrx : s.part.link.rx = .body len (kind :: payload))
    (hlen : (kind :: payload).length = len) :
    exec (.lrxByte b) s =
      if byte len + byteSum (kind :: payload) + b = 0 then exec (rowOfRecord kind payload) (s.withPart s.part.hunting)
      else exec (.frameError .check) (s.withPart s.part.hunting) := by
  have hreceive : s.part.receive b = s.part.endFrame len (kind :: payload) b := by
    simp only [Part.receive, hbuffer, hrx, hlen, Option.isSome_none, Bool.false_eq_true, if_false, lt_irrefl]
  show Host.Outcome.next (s.withPart (s.part.receive b).interpretDue) = _
  rw [hreceive, Part.endFrame]
  split
  · exact next_arrived hbuffer (.frame kind payload)
  · exact next_arrived hbuffer (.error .check)

/-- The gap timer's expiry is the framing error GAP (R181). -/
theorem exec_linkGapExpiry_running {s : State} (hbuffer : s.part.link.buffer = none)
    (htimer : s.part.link.gapTimer.isSome = true) :
    exec .linkGapExpiry s = exec (.frameError .gap) (s.withPart s.part.hunting) := by
  show execLinkGapExpiry s = _
  rw [execLinkGapExpiry, if_pos htimer]
  exact next_arrived hbuffer (.error .gap)

/-- Settles O7: the rows of the receiver's table, and what arrives whole by `next_arrived`. -/
theorem receiverFollowsItsTable : Obligations.ReceiverFollowsItsTable := by
  unfold Obligations.ReceiverFollowsItsTable
  intro b s hunting
  refine ⟨exec_lrxByte_occupied b, fun hbuffer => ⟨exec_lrxByte_hunt b hbuffer, exec_lrxByte_length b hbuffer,
    fun len bytes hrx hshort => exec_lrxByte_body b hbuffer hrx hshort, fun len kind payload hrx hlen => ?_,
    fun htimer => ?_⟩, fun htimer => ?_⟩
  · rw [← byteSum_eq_foldr]
    exact exec_lrxByte_check b hbuffer hrx hlen
  · have hexpiry := exec_linkGapExpiry_running hbuffer htimer
    refine ⟨hexpiry, fun hhears => hexpiry.trans ?_, fun hreply => hexpiry.trans ?_⟩
    · exact congrArg (fun p => Host.Outcome.next (s.withPart p))
        (Part.interpret_unchanged (p := s.part.hunting) (item := .error .gap) (f := answerFrameError .gap) hhears rfl)
    · exact congrArg (fun p => Host.Outcome.next (s.withPart p))
        (Part.interpret_waits (p := s.part.hunting) (item := .error .gap) (f := answerFrameError .gap) hbuffer hreply)
  · show execLinkGapExpiry s = _
    rw [execLinkGapExpiry, htimer]
    rfl

/-! ### A record on the wire (R180) -/

theorem runAll_cons {c : Instr} {cs : List Instr} {s t : State} (h : exec c s = .next t) :
    runAll (c :: cs) s = runAll cs t := by
  simp only [runAll, h]

theorem runAll_singleton (c : Instr) (s : State) : runAll [c] s = exec c s := by
  simp only [runAll]
  cases exec c s <;> rfl

/-- The part in the middle of a frame's body (R181). -/
def Part.inBody (len : Nat) (bytes : List Byte) (p : Part) : Part :=
  { p with link.rx := .body len bytes, link.gapTimer := some 5 }

/-- The bytes of a body are taken one after another (R181). -/
theorem runAll_body (s : State) (cs : List Instr) (len : Nat) (hbuffer : s.part.link.buffer = none)
    (rest bytes : List Byte) (hfit : bytes.length + rest.length ≤ len) :
    runAll (rest.map .lrxByte ++ cs) (s.withPart (s.part.inBody len bytes)) =
      runAll cs (s.withPart (s.part.inBody len (bytes ++ rest))) := by
  induction rest generalizing bytes with
  | nil => simp
  | cons b bs ih =>
    rw [List.length_cons] at hfit
    have hbyte := exec_lrxByte_body (s := s.withPart (s.part.inBody len bytes)) b hbuffer rfl (by omega)
    rw [List.map_cons, List.cons_append, runAll_cons hbyte]
    have hrest := ih (bytes ++ [b]) (by simp; omega)
    rwa [List.append_assoc, List.singleton_append] at hrest

/-- Settles O8: the bytes of a record through HUNT, LENGTH and BODY to its check byte, whose sum is 0. -/
theorem recordOnTheWireIsReceived : Obligations.RecordOnTheWireIsReceived := by
  unfold Obligations.RecordOnTheWireIsReceived
  intro s kind payload hfits hrx htimer hbuffer
  let len := payload.length + 1
  let check : Byte := 0 - byteSum (byte len :: kind :: payload)
  have hlen : (byte len).toNat = len := byte_toNat (by omega)
  have hstart := exec_lrxByte_hunt 0x7E hbuffer hrx
  have hlength := exec_lrxByte_length
    (s := s.withPart { s.part with link.rx := .length, link.gapTimer := some 5 }) (byte len) hbuffer rfl
  rw [hlen, if_pos (by omega)] at hlength
  have hsum : byte len + byteSum (kind :: payload) + check = 0 := by
    show byteSum (byte len :: kind :: payload) + (0 - byteSum (byte len :: kind :: payload)) = 0
    rw [zero_sub, add_neg_cancel]
  have hcheck := exec_lrxByte_check (s := s.withPart (s.part.inBody len (kind :: payload))) check hbuffer rfl rfl
  rw [if_pos hsum] at hcheck
  have hback : s.part.hunting = s.part := by
    rw [Part.hunting, ← hrx, ← htimer]
  calc runAll ((recordBytes kind payload).map .lrxByte) s
      = runAll ((byte len :: (kind :: payload) ++ [check]).map .lrxByte)
          (s.withPart { s.part with link.rx := .length, link.gapTimer := some 5 }) := runAll_cons hstart
    _ = runAll ((kind :: payload).map .lrxByte ++ [.lrxByte check]) (s.withPart (s.part.inBody len [])) := by
        rw [List.cons_append, List.map_cons, runAll_cons hlength, List.map_append]
        rfl
    _ = runAll [.lrxByte check] (s.withPart (s.part.inBody len (kind :: payload))) :=
        runAll_body s [.lrxByte check] len hbuffer (kind :: payload) [] (by simp [len])
    _ = exec (rowOfRecord kind payload) (s.withPart s.part.hunting) := (runAll_singleton _ _).trans hcheck
    _ = exec (rowOfRecord kind payload) s := by rw [hback, State.withPart_self]

end Sys2Proof.Machine
end

section
/-! SUPPORT. Notices queued, lost and displaced (R190 to R193), and the records that the transmitter takes at the end of
another (R180, R185). The statements O10 and O11. -/

namespace Sys2Proof.Machine

/-! ### The notice queue -/

/-- A queue of TRANSMIT notices alone has none to give up (R193). -/
theorem dropNewestOther_transmits {queue : List Queued} (h : ∀ x ∈ queue, x.notice.isTransmit = true) :
    dropNewestOther queue = none := by
  induction queue with
  | nil => rfl
  | cons q qs ih =>
    rw [dropNewestOther, ih (fun x hx => h x (List.mem_cons_of_mem q hx))]
    exact if_pos (h q List.mem_cons_self)

/-- The newest notice that is no TRANSMIT is the one given up (R193). -/
theorem dropNewestOther_append (older : List Queued) {newer : List Queued} {q : Queued}
    (hq : q.notice.isTransmit = false) (h : ∀ x ∈ newer, x.notice.isTransmit = true) :
    dropNewestOther (older ++ q :: newer) = some (older ++ newer) := by
  induction older with
  | nil =>
    rw [List.nil_append, dropNewestOther, dropNewestOther_transmits h]
    exact if_neg (by simp [hq])
  | cons o os ih => rw [List.cons_append, dropNewestOther, ih, List.cons_append]

/-- A TRANSMIT that finds the queue full takes the place of another notice, and carries the LOST flag (R193). -/
theorem Part.queueNotice_displaces {p : Part} {n : Notice} {rest : List Queued} (ht : n.isTransmit = true)
    (hf : 16 ≤ p.link.notices.length) (hd : dropNewestOther p.link.notices = some rest) :
    p.queueNotice n = { p with link.notices := rest ++ [⟨n, true⟩], link.lost := false } := by
  have hon : noticeEnabled p.link.enabled n = true := by simp [noticeEnabled, ht]
  simp [Part.queueNotice, hon, not_lt.2 hf, ht, displaceOne, hd]

/-- Settles O11: the four cases of a notice. -/
theorem noticeQueueRules : Obligations.NoticeQueueRules := by
  unfold Obligations.NoticeQueueRules
  intro n p
  refine ⟨Part.queueNotice_disabled, Part.queueNotice_room,
    fun hon hfull hother => Part.queueNotice_full hon (not_lt.2 hfull) hother,
    fun older newer q hqueue hfull ht hq hnewer => Part.queueNotice_displaces ht hfull ?_⟩
  rw [hqueue]
  exact dropNewestOther_append older hq hnewer

/-! ### The transmitter -/

/-- The levels of a record, byte by byte (R180, log entry 43). -/
theorem recordLevels_cons (b : Byte) (bytes : List Byte) :
    recordLevels (b :: bytes) = [false] ++ (List.range 8).map b.getLsbD ++ [true] ++ recordLevels bytes := by
  simp [recordLevels, byteLevels]

/-- The transmitter idle with LTX at rest, as the last byte of a record leaves it (R180, R185). -/
def Part.rested (p : Part) : Part := { p with link.tx := .idle, link.ltx := ltxRest }

/-- A rested transmitter sends the reply that stands in the reply slot (R185). -/
theorem Part.rested_reply {p : Part} {r : Reply} (h : p.link.reply = some r) :
    p.rested.startSending = { p with link.tx := .reply r.bytes, link.ltx := recordLevels r.bytes } := by
  simp only [Part.startSending, Part.rested, h]

/-- With the reply slot empty it takes the oldest notice out of the queue (R185). -/
theorem Part.rested_notice {p : Part} {q : Queued} {qs : List Queued} (hreply : p.link.reply = none)
    (h : p.link.notices = q :: qs) :
    p.rested.startSending =
      { p with link.tx := .notice q.bytes, link.ltx := recordLevels q.bytes, link.notices := qs } := by
  simp only [Part.startSending, Part.rested, hreply, h]

/-- With nothing waiting it stays idle (R185). -/
theorem Part.rested_idle {p : Part} (hreply : p.link.reply = none) (h : p.link.notices = []) :
    p.rested.startSending = p.rested := by
  simp only [Part.startSending, Part.rested, hreply, h]

/-- The end of a notice is the transmitter's alone (R185). -/
theorem exec_recordSent_notice {s : State} {bytes : List Byte} (hlive : s.part.stepRoundLive = true)
    (hdriven : s.part.outputsDriven = true) (htx : s.part.link.tx = .notice bytes) :
    exec .recordSent s = .next (s.withPart s.part.rested.startSending) := by
  have hsent : s.part.recordSent = s.part.rested.startSending := by
    unfold Part.recordSent
    rw [htx]
    exact Part.finish_of_live hlive hdriven
  exact congrArg (fun p => Host.Outcome.next (s.withPart p)) hsent

/-- The end of a reply with no reset due and no record waiting empties the reply slot, and the rest is the transmitter's
(R182, R185). -/
theorem exec_recordSent_reply {s : State} {bytes : List Byte} (hlive : s.part.stepRoundLive = true)
    (hdriven : s.part.outputsDriven = true) (hdue : s.part.link.resetDue = none) (hbuffer : s.part.link.buffer = none)
    (htx : s.part.link.tx = .reply bytes) :
    exec .recordSent s =
      .next (s.withPart ({ s.part with link.reply := none } : Part).rested.startSending) := by
  have hsent : s.part.recordSent = s.part.replySent.startSending := by
    rw [Part.recordSent_reply htx hdue, Part.interpretDue_empty (p := s.part.replySent) hbuffer]
    exact Part.finish_of_live hlive hdriven
  exact congrArg (fun p => Host.Outcome.next (s.withPart p)) hsent

/-- Settles O10: what the transmitter takes at the end of a notice and at the end of a reply. -/
theorem transmitterTakesNextRecord : Obligations.TransmitterTakesNextRecord := by
  unfold Obligations.TransmitterTakesNextRecord
  refine ⟨fun b bytes => ⟨(List.range 8).map b.getLsbD, recordLevels_cons b bytes, by simp, fun i hi => ?_⟩, rfl,
    fun s bytes hlive hdriven hdue => ⟨fun htx => ?_, fun htx r hreply => ?_, fun htx hreply q qs hqueue => ?_,
      fun htx hreply hqueue => ?_, fun hbuffer htx q qs hqueue => ?_, fun hbuffer htx hqueue => ?_⟩⟩
  · simp [hi]
  · show Host.Outcome.next (s.withPart s.part.recordSent) = _
    rw [Part.recordSent, htx, State.withPart_self]
  · rw [exec_recordSent_notice hlive hdriven htx, Part.rested_reply hreply]
  · rw [exec_recordSent_notice hlive hdriven htx, Part.rested_notice hreply hqueue]
  · rw [exec_recordSent_notice hlive hdriven htx, Part.rested_idle hreply hqueue]
    rfl
  · rw [exec_recordSent_reply hlive hdriven hdue hbuffer htx,
      Part.rested_notice (p := { s.part with link.reply := none }) rfl hqueue]
  · rw [exec_recordSent_reply hlive hdriven hdue hbuffer htx,
      Part.rested_idle (p := { s.part with link.reply := none }) rfl hqueue]
    rfl

end Sys2Proof.Machine
end

section
/-! SUPPORT. The queue of commands: a step takes the command at its front, and what a command does is a change of the
part alone. The statements O1 and O2. -/

namespace Sys2Proof.Machine

/-! ### One step of the block -/

/-- The command at the front meets the part as it stands, with the rest of the queue behind it. -/
@[simp] theorem step_front (c : Instr) (rest : List Instr) (p : Part) : step ⟨p, c :: rest⟩ = exec c ⟨p, rest⟩ := rfl

/-- With no command waiting the block idles (log entry 3). -/
@[simp] theorem step_idle (p : Part) : step ⟨p, []⟩ = .next ⟨p, []⟩ := rfl

/-- Settles O1: `step` by the two shapes of the queue. -/
theorem stepTakesFrontCommandOrIdles : Obligations.StepTakesFrontCommandOrIdles := by
  unfold Obligations.StepTakesFrontCommandOrIdles
  exact ⟨step_front, step_idle⟩

/-! ### What a command does to the state -/

/-- An outcome that goes on, with a part of its own and the queue it was given: neither a fault nor a refusal. -/
def AnswersPart (s : State) (o : Host.Outcome State Fault Refusal) : Prop := ∃ q, o = .next (s.withPart q)

theorem answersPart_next (s : State) (q : Part) : AnswersPart s (.next (s.withPart q)) := ⟨q, rfl⟩

/-- A command that cannot happen now leaves the state as it is (log entry 1). -/
theorem answersPart_same (s : State) : AnswersPart s (.next s) := answersPart_next s s.part

theorem answersPart_ite {s : State} {a b : Host.Outcome State Fault Refusal} (c : Prop) [Decidable c]
    (ha : AnswersPart s a) (hb : AnswersPart s b) : AnswersPart s (if c then a else b) := by
  split
  · exact ha
  · exact hb

/-- An event that happens only while its condition holds (log entry 1). -/
theorem answersPart_guarded (s : State) (c : Prop) [Decidable c] (q : Part) :
    AnswersPart s (if c then .next (s.withPart q) else .next s) :=
  answersPart_ite c (answersPart_next s q) (answersPart_same s)

/-- Each of the 48 commands answers with a part. Host commands, framing errors and resets always do; an event does what
its condition guards, or nothing. -/
theorem exec_answersPart (c : Instr) (s : State) : AnswersPart s (exec c s) := by
  cases c with
  | info _ | paramSet _ | paramGet _ | identity _ | sitePut _ | siteDrop _ | siteGet _ | siteList _ | run _ | halt _
  | step _ | cont _ | watchSet _ | watchClear _ | move _ | airIn _ | airSent _ | linesSet _ | linesRead _ | request _
  | signOff _ | status _ | notices _ | reset _ | frameError _ | lrxByte _ | recordSent | powerOn | resetLine =>
    exact answersPart_next s _
  | unknown _ _ | inputEdge _ _ => exact answersPart_ite _ (answersPart_same s) (answersPart_next s _)
  | linkGapExpiry | roundExpiry | sampleTimerExpiry | rssiConversionDone _ | batteryTimerExpiry | debounceExpiry _
  | intervalExpiry | beaconWaitExpiry | grantWaitExpiry =>
    exact answersPart_guarded s _ _
  | shiftLatchDone | lock | lockWaitExpiry | settleExpiry | listenExpiry | txWaitExpiry =>
    simp only [exec, execShiftLatchDone, execLock, execLockWaitExpiry, execSettleExpiry, execListenExpiry,
      execTxWaitExpiry]
    split
    · exact answersPart_guarded s _ _
    · exact answersPart_same s
  | lockBlankEnd active =>
    simp only [exec, execLockBlankEnd]
    split
    · exact answersPart_ite _ (answersPart_ite _ (answersPart_next s _) (answersPart_next s _)) (answersPart_same s)
    · exact answersPart_same s
  | batteryConversionDone code =>
    simp only [exec, execBatteryConversionDone]
    split
    · exact answersPart_next s _
    · exact answersPart_same s

/-- Settles O2: each command answers with a part, and a part of its own leaves the queue alone. -/
theorem everyCommandCompletes : Obligations.EveryCommandCompletes := by
  unfold Obligations.EveryCommandCompletes
  intro c s
  obtain ⟨q, hq⟩ := exec_answersPart c s
  exact ⟨s.withPart q, hq, s.withPart_pending q⟩

end Sys2Proof.Machine
end
